-- ==== Sys2Proof/Word.lean ====
section
/-! DEFINITION. The widths of the block's registers, ports and words (10_state.md R10, 30_encoding.md R42, R43). -/

namespace Sys2Proof

/-- A u8: one of the bytes b0 to b4 of a frame (R33). -/
abbrev Byte := BitVec 8

/-- A u32: a tick or an interval (R37, R60). -/
abbrev Tick := BitVec 32

/-- An s7, two's complement: the bit counter (R13). -/
abbrev Counter := BitVec 7

/-- A u40: a frame, and the shift register that assembles it (R14, R48). -/
abbrev Frame := BitVec 40

/-- A 16-bit result register in tenths: two's complement for the temperature, unsigned for the humidity (R16, R17). -/
abbrev Tenths := BitVec 16

/-- A 36-bit event word E[35:0] (R43). -/
abbrev EventWord := BitVec 36

/-- A u2 enumeration code on a port (R51, R52). -/
abbrev Code2 := BitVec 2

end Sys2Proof
end

