-- ==== Sys2Proof/Config.lean ====
section
/-! DEFINITION. The implementation parameters of 00_scope.md R5 that a rule of the block reads and that are not plain
numbers of the source. Their default values stand in Machine/Parameters.lean, with the numbers. -/

namespace Sys2Proof

/-- The parameters of R5 marked "decision" or "OPEN" that the rules read. They are fixed for a machine; State holds them,
so that a statement over every state is a statement for every value of them. -/
structure Params where
  /-- `B0_AT_MSB` (R33): byte b0 is the most significant byte of the frame (true) or the least significant (false). -/
  b0AtMsb : Bool
  /-- `FLAG_ON_INVALID` (R92): BadChecksum and BadData set the new-data flag too. -/
  flagOnInvalid : Bool
  /-- `LAST_TICK_INIT` (R24): what RESET writes to `last_tick`. OPEN: any value. -/
  lastTickInit : Tick
  /-- `TEMP_DEFAULT_X10` (R24): what RESET writes to `temperature_x10`. -/
  tempDefaultX10 : Tenths
  /-- `HUM_DEFAULT_X10` (R24): what RESET writes to `humidity_x10`. -/
  humDefaultX10 : Tenths
  deriving DecidableEq, Repr

end Sys2Proof
end

