-- ==== Sys2Proof/Machine/Parameters.lean ====
section
/-! DEFINITION. The numbers of 00_scope.md R5 (source §4.2 and §4.3), the defaults of the parameters, and the wrap-safe
tick difference of 40_edge_decoder.md R60. Each number is one definition, so that an audit of the source's literals changes one line (D21). -/

namespace Sys2Proof

/-- `SYNC_THRESHOLD`: an interval strictly greater is a sync marker. -/
abbrev syncThreshold : Nat := 10000

/-- `PULSE_MIN`: least interval of a valid data pulse, inclusive. -/
abbrev pulseMin : Nat := 60

/-- `PULSE_MAX`: greatest interval of a valid data pulse, inclusive. -/
abbrev pulseMax : Nat := 150

/-- `ONE_THRESHOLD`: a valid data pulse strictly greater is a 1. -/
abbrev oneThreshold : Nat := 100

/-- `BITS_AFTER_SYNC` = -2, in the counter's 7 bits. -/
abbrev bitsAfterSync : Counter := BitVec.ofInt 7 (-2)

/-- `FRAME_BITS`: the number of data bits of a frame. -/
abbrev frameBitCount : Counter := 40#7

/-- `DHT11_T_MAX_X10`. -/
abbrev dht11TMaxX10 : Int := 600

/-- `DHT11_H_MIN_X10`. -/
abbrev dht11HMinX10 : Int := 90

/-- `DHT11_H_MAX_X10`. -/
abbrev dht11HMaxX10 : Int := 900

/-- `DHTXX_T_MIN_X10`. -/
abbrev dhtxxTMinX10 : Int := -500

/-- `DHTXX_T_MAX_X10`. -/
abbrev dhtxxTMaxX10 : Int := 1350

/-- `DHTXX_H_MAX_X10`. -/
abbrev dhtxxHMaxX10 : Int := 1100

/-- The parameters at their defaults (R5). `LAST_TICK_INIT` has no default: it is OPEN, and the 0 here is this model's
own choice for `State.reset` (DESIGN CHOICE, unsafe: notes/assumptions/3.md). -/
def Params.default : Params where
  b0AtMsb := true
  flagOnInvalid := false
  lastTickInit := 0
  tempDefaultX10 := 0
  humDefaultX10 := 0

/-- `WrapDiff(a, b) = (b - a) mod 2^32` (R60): the interval from tick `a` to tick `b`. -/
def wrapDiff (a b : Tick) : Tick := b - a

end Sys2Proof
end

