-- ==== Sys2Proof/Syntax.lean ====
section
/-! DEFINITION. Events, EDGE classes, sensor models and the one inductive of instructions: a constructor per row of
spec/opcode_table.json (30_encoding.md R44, R47, R59). -/

namespace Sys2Proof

/-- `SensorModel` (R52): which layouts VALIDATE tries. -/
inductive SensorModel where
  | auto
  | dht11
  | dhtxx
  deriving DecidableEq, Repr

/-- The six classes of an EDGE event (R47). -/
inductive EdgeClass where
  | sync
  | ignore
  | skip
  | bit0
  | bit1
  | viol
  deriving DecidableEq, Repr

/-- The first-level decode of an event word (R44). The bits a row ignores are kept as an operand that no meaning reads. -/
inductive Event where
  /-- `rst = 1`; E[34:0] ignored. -/
  | reset (ignored : BitVec 35)
  /-- `rst = 0`, `arm = 1`, `edge_valid = 0`; E[32:0] ignored. -/
  | arm (ignored : BitVec 33)
  /-- all three strobes 0; E[32:0] ignored. -/
  | nop (ignored : BitVec 33)
  /-- `edge_valid = 1` alone; E[32] is the level, E[31:0] the tick (R45). -/
  | edge (level : BitVec 1) (tick : Tick)
  /-- `rst = 0`, `arm = 1`, `edge_valid = 1`: reserved (R53). -/
  | reserved (ignored : BitVec 33)
  deriving DecidableEq, Repr

/-- What the second-level decode of an EDGE word reads beside the word: the old `last_tick`, `in_frame` and `bits` (R46, R47). -/
structure EdgeContext where
  lastTick : Tick
  inFrame : Bool
  bits : Counter
  deriving DecidableEq, Repr

/-- The operations of the opcode table, one constructor per row. -/
inductive Instr where
  /-- RESET (R100). -/
  | reset (ignored : BitVec 35)
  /-- ARM (R102). -/
  | arm (ignored : BitVec 33)
  /-- NOP (R101). -/
  | nop (ignored : BitVec 33)
  /-- EDGE.SYNC (R63). -/
  | edgeSync (level : BitVec 1) (tick : Tick)
  /-- EDGE.IGNORE (R64). -/
  | edgeIgnore (level : BitVec 1) (tick : Tick)
  /-- EDGE.SKIP (R65). -/
  | edgeSkip (level : BitVec 1) (tick : Tick)
  /-- EDGE.BIT0 (R66). -/
  | edgeBit0 (level : BitVec 1) (tick : Tick)
  /-- EDGE.BIT1 (R67). -/
  | edgeBit1 (level : BitVec 1) (tick : Tick)
  /-- EDGE.VIOL (R68). -/
  | edgeViol (level : BitVec 1) (tick : Tick)
  /-- RESERVED.ARM_EDGE (R53). -/
  | reservedArmEdge (ignored : BitVec 33)
  /-- VALIDATE.DHT11 (R83, R89): VALIDATE of a frame with model DHT11. -/
  | validateDht11 (frame : Frame)
  /-- VALIDATE.DHTXX (R84, R89): VALIDATE of a frame with model DHTxx. -/
  | validateDhtxx (frame : Frame)
  /-- VALIDATE.AUTO (R85, R89): VALIDATE of a frame with model Auto. -/
  | validateAuto (frame : Frame)
  deriving DecidableEq, Repr

/-- The two formats of the opcode table (R59): EVENT, a 36-bit event word, and FRAME40, a 40-bit frame validated under
the model that selects the row. -/
inductive Encoded where
  | event (w : EventWord)
  | frame (model : SensorModel) (f : Frame)
  deriving DecidableEq, Repr

end Sys2Proof
end

