-- ==== Sys2Proof/WellFormed.lean ====
section
/-! DEFINITION. When an instruction is the one its word stands for: the class conditions of the EDGE rows of
spec/opcode_table.json, each row's condition by itself. (The decoder applies the ordered tests of R47.) -/

namespace Sys2Proof

/-- The "class_condition" of an EDGE row, on the interval and the old `in_frame` and `bits`. -/
def EdgeClass.condition (c : EdgeClass) (interval : Tick) (inFrame : Bool) (bits : Counter) : Bool :=
  match c with
  | .sync => decide (interval.toNat > syncThreshold)
  | .ignore => decide (interval.toNat ≤ syncThreshold) && !inFrame
  | .skip => decide (interval.toNat ≤ syncThreshold) && inFrame && decide (bits.toInt + 1 < 1)
  | .bit0 =>
    decide (interval.toNat ≤ syncThreshold) && inFrame && decide (bits.toInt + 1 ≥ 1)
      && decide (pulseMin ≤ interval.toNat ∧ interval.toNat ≤ oneThreshold)
  | .bit1 =>
    decide (interval.toNat ≤ syncThreshold) && inFrame && decide (bits.toInt + 1 ≥ 1)
      && decide (oneThreshold + 1 ≤ interval.toNat ∧ interval.toNat ≤ pulseMax)
  | .viol =>
    inFrame && decide (bits.toInt + 1 ≥ 1)
      && decide (interval.toNat < pulseMin ∨ (pulseMax < interval.toNat ∧ interval.toNat ≤ syncThreshold))

/-- The condition of a class for an edge with this tick in this context. -/
def EdgeClass.fits (c : EdgeClass) (ctx : EdgeContext) (tick : Tick) : Bool :=
  c.condition (wrapDiff ctx.lastTick tick) ctx.inFrame ctx.bits

/-- An instruction is well formed in a context when its word, presented in that context, stands for it: an EDGE
instruction when the condition of its row holds (R47); every other operation in every context (R44, R59). -/
def Instr.wellFormed (ctx : EdgeContext) : Instr → Bool
  | .edgeSync _ tick => EdgeClass.sync.fits ctx tick
  | .edgeIgnore _ tick => EdgeClass.ignore.fits ctx tick
  | .edgeSkip _ tick => EdgeClass.skip.fits ctx tick
  | .edgeBit0 _ tick => EdgeClass.bit0.fits ctx tick
  | .edgeBit1 _ tick => EdgeClass.bit1.fits ctx tick
  | .edgeViol _ tick => EdgeClass.viol.fits ctx tick
  | .reset _ => true
  | .arm _ => true
  | .nop _ => true
  | .reservedArmEdge _ => true
  | .validateDht11 _ => true
  | .validateDhtxx _ => true
  | .validateAuto _ => true

end Sys2Proof
end

