-- ==== Sys2Proof/Decode.lean ====
section
/-! DEFINITION. The two-level decode of an event word (30_encoding.md R44 to R47), the rows of a frame (R59), the codes
of the sensor model (R52), and the encoder. -/

namespace Sys2Proof

/-- The sensor model of a code on the `model` port (R52); code 3 is reserved (R53). -/
def SensorModel.ofCode : Code2 → Option SensorModel
  | 0#2 => some .auto
  | 1#2 => some .dht11
  | 2#2 => some .dhtxx
  | _ => none

/-- The code of a sensor model (R52). -/
def SensorModel.code : SensorModel → Code2
  | .auto => 0#2
  | .dht11 => 1#2
  | .dhtxx => 2#2

/-- First-level decode (R44): the three strobes E[35:33] select the event. -/
def decodeEvent (w : EventWord) : Event :=
  match w.getLsbD 35, w.getLsbD 34, w.getLsbD 33 with
  | true, _, _ => .reset (w.extractLsb' 0 35)
  | false, true, false => .arm (w.extractLsb' 0 33)
  | false, false, true => .edge (w.extractLsb' 32 1) (w.extractLsb' 0 32)
  | false, false, false => .nop (w.extractLsb' 0 33)
  | false, true, true => .reserved (w.extractLsb' 0 33)

/-- Second-level decode (R47): the tests in the order of the rule's rows, the first that holds gives the class. The
comparisons are on the unsigned interval and on `bits` as a signed number, `bits + 1` on the integers (R8). -/
def classify (interval : Tick) (inFrame : Bool) (bits : Counter) : EdgeClass :=
  if interval.toNat > syncThreshold then .sync
  else if inFrame = false then .ignore
  else if bits.toInt + 1 < 1 then .skip
  else if pulseMin ≤ interval.toNat ∧ interval.toNat ≤ oneThreshold then .bit0
  else if oneThreshold + 1 ≤ interval.toNat ∧ interval.toNat ≤ pulseMax then .bit1
  else .viol

/-- The instruction of an EDGE event of a given class. -/
def edgeInstr (c : EdgeClass) (level : BitVec 1) (tick : Tick) : Instr :=
  match c with
  | .sync => .edgeSync level tick
  | .ignore => .edgeIgnore level tick
  | .skip => .edgeSkip level tick
  | .bit0 => .edgeBit0 level tick
  | .bit1 => .edgeBit1 level tick
  | .viol => .edgeViol level tick

/-- The instruction an event is in a context: an EDGE by the class of its interval (R46), any other by itself. -/
def instrOfEvent (ctx : EdgeContext) : Event → Instr
  | .reset x => .reset x
  | .arm x => .arm x
  | .nop x => .nop x
  | .edge level tick => edgeInstr (classify (wrapDiff ctx.lastTick tick) ctx.inFrame ctx.bits) level tick
  | .reserved x => .reservedArmEdge x

/-- VALIDATE of a frame is the row its model selects (R59, R85). -/
def validateInstr : SensorModel → Frame → Instr
  | .auto, f => .validateAuto f
  | .dht11, f => .validateDht11 f
  | .dhtxx, f => .validateDhtxx f

/-- The decoder, total on every event word and every frame. -/
def decode (ctx : EdgeContext) : Encoded → Instr
  | .event w => instrOfEvent ctx (decodeEvent w)
  | .frame m f => validateInstr m f

/-- What is no word of the table, by name. -/
inductive Reject where
  /-- more than 40 bits: neither an event word nor a frame. -/
  | wordTooWide
  /-- a frame under the reserved model code 3 (R53). -/
  | reservedModel
  deriving DecidableEq, Repr

/-- The decoder on a raw number: below 2^36 it is an event word (R43), from there below 2^40 it can only be a frame,
read under the code on the `model` port; anything wider is rejected. -/
def decodeRaw (ctx : EdgeContext) (modelPort : Code2) (w : Nat) : Except Reject Instr :=
  if w < 2 ^ 36 then .ok (decode ctx (.event (BitVec.ofNat 36 w)))
  else if w < 2 ^ 40 then
    match SensorModel.ofCode modelPort with
    | some m => .ok (decode ctx (.frame m (BitVec.ofNat 40 w)))
    | none => .error .reservedModel
  else .error .wordTooWide

/-- The context of the first event after reset (R24): `in_frame` and `bits` are 0, `last_tick` is LAST_TICK_INIT. -/
def EdgeContext.reset : EdgeContext where
  lastTick := Params.default.lastTickInit
  inFrame := false
  bits := 0

/-- The instruction the decoder reads from a word numbered as the opcode table numbers it, presented as the first event
after `State.reset` (model Auto). The class of an EDGE word depends on the state, so a context must be taken
(DESIGN CHOICE, notes/assumptions/7.md). -/
def decodeTableWord (nbits w : Nat) : Option Instr :=
  match decodeRaw EdgeContext.reset SensorModel.auto.code (w % 2 ^ nbits) with
  | .ok i => some i
  | .error _ => none

/-! ## The encoder -/

/-- The event word of an event (R43, R44): the strobes E[35:33] above the operand bits, 36 bits in all. -/
def encodeEvent : Event → EventWord
  | .reset x => (0b1#1 ++ x).setWidth 36
  | .arm x => (0b010#3 ++ x).setWidth 36
  | .nop x => (0b000#3 ++ x).setWidth 36
  | .edge level tick => (0b001#3 ++ level ++ tick).setWidth 36
  | .reserved x => (0b011#3 ++ x).setWidth 36

/-- The word of an instruction: its event word, or its frame and the model that selects its row. -/
def encode : Instr → Encoded
  | .reset x => .event (encodeEvent (.reset x))
  | .arm x => .event (encodeEvent (.arm x))
  | .nop x => .event (encodeEvent (.nop x))
  | .edgeSync level tick => .event (encodeEvent (.edge level tick))
  | .edgeIgnore level tick => .event (encodeEvent (.edge level tick))
  | .edgeSkip level tick => .event (encodeEvent (.edge level tick))
  | .edgeBit0 level tick => .event (encodeEvent (.edge level tick))
  | .edgeBit1 level tick => .event (encodeEvent (.edge level tick))
  | .edgeViol level tick => .event (encodeEvent (.edge level tick))
  | .reservedArmEdge x => .event (encodeEvent (.reserved x))
  | .validateDht11 f => .frame .dht11 f
  | .validateDhtxx f => .frame .dhtxx f
  | .validateAuto f => .frame .auto f

end Sys2Proof
end

