-- ==== Sys2Proof/Machine/State.lean ====
section
/-! DEFINITION. The machine's state as plain data: the eight state elements of 10_state.md R10, the configuration the
rules read (R5, R19), and the event words the environment is yet to present. No memory: the block has none (20_memory.md R30). -/

namespace Sys2Proof.Machine

/-- `Status` (30_encoding.md R51). All four codes are used, so every u2 value is one of these (10_state.md R23, item 4). -/
inductive Status where
  | good
  | badChecksum
  | badData
  | timeout
  deriving DecidableEq, Repr

/-- The state of one Sensor's block. -/
structure State where
  /-- `last_tick` (R11). -/
  lastTick : Tick
  /-- `in_frame` (R12): false is Idle, true is InFrame. -/
  inFrame : Bool
  /-- `bits` (R13), two's complement. -/
  bits : Counter
  /-- `code` (R14). -/
  code : Frame
  /-- `status` (R15). -/
  status : Status
  /-- `temperature_x10` (R16), two's complement, tenths of a degree. -/
  temperatureX10 : Tenths
  /-- `humidity_x10` (R17), unsigned, tenths of a percent. -/
  humidityX10 : Tenths
  /-- `new_data` (R18). -/
  newData : Bool
  /-- The configuration input `model` (R19, R52): no event writes it. -/
  modelPort : Code2
  /-- The implementation parameters (00_scope.md R5): no event writes them. -/
  params : Params
  /-- The model's own field: the event words still to be presented, the next one first (R38, R43; notes/assumptions/1.md). -/
  events : List EventWord
  deriving DecidableEq, Repr

/-- No event faults: "A model has no fault outcome for any event" (60_exceptions.md R120), so there is no reason. -/
inductive Fault where
  deriving DecidableEq, Repr

/-- Why an event has no meaning. -/
inductive Refusal where
  /-- An arm of `exec` without a meaning; raised by no arm of this model. Safe. -/
  | notModelled (mnemonic : String)
  /-- The event word with `arm` and `edge_valid` (R53, item 2); raised by the meaning of RESERVED.ARM_EDGE. Safe: a claim
  about a run then has as premise that the word does not occur. -/
  | reservedArmEdge
  /-- The configuration `model = 3` (R53, item 1; R85); raised by `step` before any event, and by the edge that would run
  VALIDATE under it. Safe. -/
  | reservedModel
  deriving DecidableEq, Repr

/-- The state right after RESET (R24) of a block with these parameters and this code on the `model` port, no event word
listed. -/
def State.resetWith (p : Params) (modelPort : Code2) : State where
  lastTick := p.lastTickInit
  inFrame := false
  bits := 0
  code := 0
  status := .timeout
  temperatureX10 := p.tempDefaultX10
  humidityX10 := p.humDefaultX10
  newData := false
  modelPort := modelPort
  params := p
  events := []

/-- The machine right after reset: the parameters at their defaults, `LAST_TICK_INIT` (OPEN) at 0 and the configured model
Auto (DESIGN CHOICE, unsafe: notes/assumptions/3.md and 4.md). No statement rests on those two values: the statements about
reset are about `State.resetWith`, for every parameter and every model. -/
def State.reset : State := State.resetWith Params.default 0

end Sys2Proof.Machine
end

