-- ==== Sys2Proof/Machine/Flags.lean ====
section
/-! DEFINITION. Flag computations: the new-data flag after a failed frame (41_frame_validator.md R92) and the test for
a complete frame (40_edge_decoder.md R69, 92_eei_decisions.md D14). -/

namespace Sys2Proof.Machine

/-- `new_data` after BadChecksum or BadData: unchanged, or set when `FLAG_ON_INVALID` (R89, R92). -/
def State.newDataOnFailure (s : State) : Bool := s.newData || s.params.flagOnInvalid

/-- "the bit counter has reached 40", written `bits = 40` (D14). -/
def State.frameComplete (s : State) : Bool := s.bits == frameBitCount

end Sys2Proof.Machine
end

