-- ==== Sys2Proof/Machine/Operands.lean ====
section
/-! DEFINITION. Operand forms: the interval of an EDGE event (30_encoding.md R46), the bytes of a frame (20_memory.md
R33), the checksum (41_frame_validator.md R81) and the two payload layouts (R83 to R86). Values are exact integers (R90, R93). -/

namespace Sys2Proof.Machine

/-- What the second-level decode of an EDGE word reads from the state (R47). -/
def State.edgeContext (s : State) : EdgeContext where
  lastTick := s.lastTick
  inFrame := s.inFrame
  bits := s.bits

/-- The interval of an edge with this tick (R46, R60). -/
def State.interval (s : State) (tick : Tick) : Tick := wrapDiff s.lastTick tick

/-- The configured sensor model; none under the reserved code 3 (R52, R53). -/
def State.sensorModel (s : State) : Option SensorModel := SensorModel.ofCode s.modelPort

/-- The five bytes of a frame: the checksum b0 and the payload b1 to b4 (R48). -/
structure FrameBytes where
  b0 : Byte
  b1 : Byte
  b2 : Byte
  b3 : Byte
  b4 : Byte
  deriving DecidableEq, Repr

/-- `Bytes(code)` (R33), from either end. -/
def frameBytes (b0AtMsb : Bool) (f : Frame) : FrameBytes :=
  if b0AtMsb then
    { b0 := f.extractLsb' 32 8, b1 := f.extractLsb' 24 8, b2 := f.extractLsb' 16 8,
      b3 := f.extractLsb' 8 8, b4 := f.extractLsb' 0 8 }
  else
    { b0 := f.extractLsb' 0 8, b1 := f.extractLsb' 8 8, b2 := f.extractLsb' 16 8,
      b3 := f.extractLsb' 24 8, b4 := f.extractLsb' 32 8 }

/-- The frame of five bytes, the inverse of `Bytes` (R33, R48). -/
def frameOfBytes (b0AtMsb : Bool) (b : FrameBytes) : Frame :=
  if b0AtMsb then b.b0 ++ b.b1 ++ b.b2 ++ b.b3 ++ b.b4
  else b.b4 ++ b.b3 ++ b.b2 ++ b.b1 ++ b.b0

/-- `Checksum(b1, b2, b3, b4)` (R81): of the payload only, on the integers, modulo 256. -/
def checksum (b1 b2 b3 b4 : Byte) : Nat := (b1.toNat + b2.toNat + b3.toNat + b4.toNat) % 256

/-- What a layout makes of a payload: its range check, and temperature and humidity in tenths (R83, R84). -/
structure Candidate where
  valid : Bool
  t10 : Int
  h10 : Int
  deriving DecidableEq, Repr

/-- `ValidateDHT11` (R83). -/
def layoutDht11 (b1 b2 b3 b4 : Byte) : Candidate :=
  let t10 : Int := 10 * (b2.toNat : Int) + (b1.toNat : Int)
  let h10 : Int := 10 * (b4.toNat : Int) + (b3.toNat : Int)
  { valid := decide (t10 ≤ dht11TMaxX10) && decide (dht11HMinX10 ≤ h10) && decide (h10 ≤ dht11HMaxX10)
    t10 := t10
    h10 := h10 }

/-- The temperature magnitude of the DHTxx layout: `((b2 & 0x7F) << 8) + b1` (R50, R84). -/
def dhtxxMagnitude (b1 b2 : Byte) : Int := ((b2 &&& 0x7F#8).toNat : Int) * 2 ^ 8 + (b1.toNat : Int)

/-- The temperature of the DHTxx layout: sign and magnitude, the sign in bit 7 of b2 (R50, R84). -/
def dhtxxTemperature (b1 b2 : Byte) : Int :=
  if b2.getLsbD 7 then -dhtxxMagnitude b1 b2 else dhtxxMagnitude b1 b2

/-- `ValidateDHTXX` (R84). -/
def layoutDhtxx (b1 b2 b3 b4 : Byte) : Candidate :=
  let t10 := dhtxxTemperature b1 b2
  let h10 : Int := (b4.toNat : Int) * 2 ^ 8 + (b3.toNat : Int)
  { valid := decide (h10 ≤ dhtxxHMaxX10) && decide (dhtxxTMinX10 ≤ t10) && decide (t10 ≤ dhtxxTMaxX10)
    t10 := t10
    h10 := h10 }

/-- `Decode(model, b1, b2, b3, b4)` (R85, R86): Auto tries DHTxx first and DHT11 only if that is not valid. -/
def decodePayload (m : SensorModel) (b1 b2 b3 b4 : Byte) : Candidate :=
  match m with
  | .dht11 => layoutDht11 b1 b2 b3 b4
  | .dhtxx => layoutDhtxx b1 b2 b3 b4
  | .auto =>
    let r := layoutDhtxx b1 b2 b3 b4
    if r.valid then r else layoutDht11 b1 b2 b3 b4

end Sys2Proof.Machine
end

