-- ==== Sys2Proof/Machine/Ops.lean ====
section
/-! DEFINITION. The named operations on the state that the meanings are made of. There is no exception to take: a failed
frame is a status written to the result group (60_exceptions.md R120, R129), which is `State.recordFailure`. -/

namespace Sys2Proof.Machine

/-- `last_tick <- tick` (40_edge_decoder.md R61). -/
def State.noteTick (s : State) (tick : Tick) : State := { s with lastTick := tick }

/-- Start of frame (R63): `in_frame <- 1`, `bits <- -2`, `code <- 0`. -/
def State.openFrame (s : State) : State := { s with inFrame := true, bits := bitsAfterSync, code := 0 }

/-- `bits <- bits + 1` (R62, step 3). -/
def State.countEdge (s : State) : State := { s with bits := s.bits + 1 }

/-- `code <- (code << 1) mod 2^40`, then the appended bit (R62, R70). -/
def State.shiftIn (s : State) (bit : Bool) : State :=
  { s with code := s.code <<< 1 + (if bit then 1#40 else 0#40) }

/-- `in_frame <- 0` and nothing else (R68, R69; 90_conflicts.md C2). -/
def State.leaveFrame (s : State) : State := { s with inFrame := false }

/-- The Good branch of VALIDATE (41_frame_validator.md R88, R89): `sext_16(t10)`, `zext_16(h10)`. -/
def State.recordGood (s : State) (t10 h10 : Int) : State :=
  { s with status := .good, temperatureX10 := BitVec.ofInt 16 t10, humidityX10 := BitVec.ofInt 16 h10, newData := true }

/-- The failing branches of VALIDATE (R89, R91, R92): the status, and the flag by the parameter. -/
def State.recordFailure (s : State) (st : Status) : State :=
  { s with status := st, newData := s.newDataOnFailure }

/-- ARM's two writes (42_control_ops.md R102). -/
def State.pend (s : State) : State := { s with status := .timeout, newData := false }

/-- RESET's eight writes (R100). -/
def State.resetBlock (s : State) : State :=
  { s with
    lastTick := s.params.lastTickInit
    inFrame := false
    bits := 0
    code := 0
    status := .timeout
    temperatureX10 := s.params.tempDefaultX10
    humidityX10 := s.params.humDefaultX10
    newData := false }

/-- The event word of this step and the words after it. With none listed, nothing is presented: all strobes are 0, a NOP
(R101; notes/assumptions/1.md). -/
def nextWord : List EventWord → EventWord × List EventWord
  | [] => (0, [])
  | w :: rest => (w, rest)

/-- Consume the event word of this step. -/
def State.fetch (s : State) : EventWord × State :=
  ((nextWord s.events).1, { s with events := (nextWord s.events).2 })

/-- Put a word in front: the next step consumes it. -/
def State.pushWord (s : State) (w : EventWord) : State := { s with events := w :: s.events }

/-- The word of an EDGE event with level High and the given interval from the state's `last_tick` (30_encoding.md R57, R58). -/
def State.gapWord (s : State) (interval : Tick) : EventWord :=
  encodeEvent (.edge 1 (s.lastTick + interval))

end Sys2Proof.Machine
end

