-- ==== Sys2Proof/Machine/Control.lean ====
section
/-! DEFINITION. The control events (42_control_ops.md R100 to R103) and the reserved event word (30_encoding.md R53). -/

namespace Sys2Proof.Machine

/-- RESET (R100): all eight writes; `model`, the parameters and the environment's words are not the block's to write. -/
def execReset (_ignored : BitVec 35) (s : State) : Host.Outcome State Fault Refusal := .next s.resetBlock

/-- ARM (R102, R103): `status <- Timeout`, `new_data <- 0`, nothing else. In every state: that no frame is in flight is not
checked (R105, R155); it is a premise of claims about reads, `launchPremise`. -/
def execArm (_ignored : BitVec 33) (s : State) : Host.Outcome State Fault Refusal := .next s.pend

/-- NOP (R101): changes no state. -/
def execNop (_ignored : BitVec 33) (s : State) : Host.Outcome State Fault Refusal := .next s

/-- RESERVED.ARM_EDGE (R53, item 2): "the model gives them no meaning". -/
def execReservedArmEdge (_ignored : BitVec 33) (_s : State) : Host.Outcome State Fault Refusal :=
  .refused .reservedArmEdge

end Sys2Proof.Machine
end

