-- ==== Sys2Proof/Machine/Validate.lean ====
section
/-! DEFINITION. VALIDATE (41_frame_validator.md): the whole operation, and its three rows of the opcode table. -/

namespace Sys2Proof.Machine

/-- `VALIDATE(code, model)` (R89): the checksum first (R82), then the layouts of the model (R86). It writes the result
group and nothing else. -/
def validate (m : SensorModel) (f : Frame) (s : State) : State :=
  let b := frameBytes s.params.b0AtMsb f
  if checksum b.b1 b.b2 b.b3 b.b4 ≠ b.b0.toNat then s.recordFailure .badChecksum
  else
    let c := decodePayload m b.b1 b.b2 b.b3 b.b4
    if c.valid then s.recordGood c.t10 c.h10 else s.recordFailure .badData

/-- VALIDATE.DHT11: VALIDATE of a frame with model DHT11 (R83, R85). -/
def execValidateDht11 (frame : Frame) (s : State) : Host.Outcome State Fault Refusal :=
  .next (validate .dht11 frame s)

/-- VALIDATE.DHTXX: VALIDATE of a frame with model DHTxx (R84, R85). -/
def execValidateDhtxx (frame : Frame) (s : State) : Host.Outcome State Fault Refusal :=
  .next (validate .dhtxx frame s)

/-- VALIDATE.AUTO: VALIDATE of a frame with model Auto (R85, R89). -/
def execValidateAuto (frame : Frame) (s : State) : Host.Outcome State Fault Refusal :=
  .next (validate .auto frame s)

end Sys2Proof.Machine
end

