-- ==== Sys2Proof/Machine/Edge.lean ====
section
/-! DEFINITION. The six classes of an EDGE event (40_edge_decoder.md R63 to R69). The decoder has picked the class (R47);
a meaning is the class's own writes. The level is read by none (R74). -/

namespace Sys2Proof.Machine

/-- Completion (R69): VALIDATE on the frame just assembled, then `in_frame <- 0`. Under the reserved model code 3 there
is no validator: refused (R53, R85). -/
def completeFrame (s : State) : Host.Outcome State Fault Refusal :=
  match s.sensorModel with
  | some m => .next (validate m s.code s).leaveFrame
  | none => .refused .reservedModel

/-- A data edge carrying a bit (R66, R67): note the tick, count, shift and append; at 40, completion. -/
def dataEdge (bit : Bool) (tick : Tick) (s : State) : Host.Outcome State Fault Refusal :=
  let t := ((s.noteTick tick).countEdge).shiftIn bit
  if t.frameComplete then completeFrame t else .next t

/-- EDGE.SYNC (R63). -/
def execEdgeSync (_level : BitVec 1) (tick : Tick) (s : State) : Host.Outcome State Fault Refusal :=
  .next (s.noteTick tick).openFrame

/-- EDGE.IGNORE (R64). -/
def execEdgeIgnore (_level : BitVec 1) (tick : Tick) (s : State) : Host.Outcome State Fault Refusal :=
  .next (s.noteTick tick)

/-- EDGE.SKIP (R65). -/
def execEdgeSkip (_level : BitVec 1) (tick : Tick) (s : State) : Host.Outcome State Fault Refusal :=
  .next (s.noteTick tick).countEdge

/-- EDGE.BIT0 (R66). -/
def execEdgeBit0 (_level : BitVec 1) (tick : Tick) (s : State) : Host.Outcome State Fault Refusal :=
  dataEdge false tick s

/-- EDGE.BIT1 (R67). -/
def execEdgeBit1 (_level : BitVec 1) (tick : Tick) (s : State) : Host.Outcome State Fault Refusal :=
  dataEdge true tick s

/-- EDGE.VIOL (R68): the count and the shift precede the window test, then the frame is abandoned. -/
def execEdgeViol (_level : BitVec 1) (tick : Tick) (s : State) : Host.Outcome State Fault Refusal :=
  .next (((s.noteTick tick).countEdge).shiftIn false).leaveFrame

end Sys2Proof.Machine
end

