-- ==== Sys2Proof/Machine/Dispatch.lean ====
section
/-! DEFINITION. One arm per row of spec/opcode_table.json. -/

namespace Sys2Proof.Machine

def exec (i : Instr) (s : State) : Host.Outcome State Fault Refusal :=
  match i with
  | .reset ignored => Sys2Proof.Machine.execReset ignored s
  | .arm ignored => Sys2Proof.Machine.execArm ignored s
  | .nop ignored => Sys2Proof.Machine.execNop ignored s
  | .edgeSync level tick => Sys2Proof.Machine.execEdgeSync level tick s
  | .edgeIgnore level tick => Sys2Proof.Machine.execEdgeIgnore level tick s
  | .edgeSkip level tick => Sys2Proof.Machine.execEdgeSkip level tick s
  | .edgeBit0 level tick => Sys2Proof.Machine.execEdgeBit0 level tick s
  | .edgeBit1 level tick => Sys2Proof.Machine.execEdgeBit1 level tick s
  | .edgeViol level tick => Sys2Proof.Machine.execEdgeViol level tick s
  | .reservedArmEdge ignored => Sys2Proof.Machine.execReservedArmEdge ignored s
  | .validateDht11 frame => Sys2Proof.Machine.execValidateDht11 frame s
  | .validateDhtxx frame => Sys2Proof.Machine.execValidateDhtxx frame s
  | .validateAuto frame => Sys2Proof.Machine.execValidateAuto frame s

end Sys2Proof.Machine
end

