-- ==== Sys2Proof/Machine/Step.lean ====
section
/-! DEFINITION. One step consumes one event word (00_scope.md R7, 20_memory.md R38): decode it in the state's context and
run the instruction. The reserved configuration is refused before the machine (60_exceptions.md R120). -/

namespace Sys2Proof.Machine

/-- The effect of one event word presented to the block. -/
def present (w : EventWord) (s : State) : Host.Outcome State Fault Refusal :=
  match s.sensorModel with
  | some _ => exec (decode s.edgeContext (.event w)) s
  | none => .refused .reservedModel

/-- Consume the next event word and present it. -/
def step (s : State) : Host.Outcome State Fault Refusal := present s.fetch.1 s.fetch.2

/-- The state in which the next step runs the instruction of a word of the opcode table. An event word is put in front of
the words to come. A number of 37 to 40 bits can only be a frame; VALIDATE runs on it inside the edge that completes it
(R69), so the decoder is put one data edge before its end and the last bit's edge is put in front (notes/assumptions/7.md). -/
def State.withFetchWord (s : State) (nbits w : Nat) : State :=
  let v := w % 2 ^ nbits
  if v < 2 ^ 36 then s.pushWord (BitVec.ofNat 36 v)
  else
    { s with inFrame := true, bits := frameBitCount - 1, code := BitVec.ofNat 40 (v / 2) }.pushWord
      (s.gapWord (if v % 2 = 1 then BitVec.ofNat 32 (oneThreshold + 1) else BitVec.ofNat 32 pulseMin))

end Sys2Proof.Machine
end

