-- ==== Sys2Proof/Machine/EdgeAlgorithm.lean ====
section
/-! DEFINITION. The master rule of an EDGE event (40_edge_decoder.md R62), its pseudocode line by line and independent of
the classes of R47. The machine does not run it: it is the other design that the classes are compared with. -/

namespace Sys2Proof.Machine

/-- `EDGE(tick)` of R62 with the configured model `m`. -/
def edgeAlgorithm (m : SensorModel) (tick : Tick) (s0 : State) : State :=
  -- step 1
  let interval : Tick := tick - s0.lastTick
  let s1 : State := { s0 with lastTick := tick }
  -- step 2
  if interval.toNat > 10000 then
    { s1 with inFrame := true, bits := BitVec.ofInt 7 (-2), code := 0 }
  -- step 3
  else if s1.inFrame then
    let s2 : State := { s1 with bits := s1.bits + 1 }
    let s3 : State :=
      if s2.bits.toInt ≥ 1 then
        let s4 : State := { s2 with code := s2.code <<< 1 }
        if 60 ≤ interval.toNat ∧ interval.toNat ≤ 150 then
          if interval.toNat > 100 then { s4 with code := s4.code + 1 } else s4
        else { s4 with inFrame := false }
      else s2
    -- step 4
    if s3.inFrame ∧ s3.bits.toInt = 40 then { validate m s3.code s3 with inFrame := false } else s3
  else s1

end Sys2Proof.Machine
end

