-- ==== Sys2Proof/Machine/Sensors.lean ====
section
/-! DEFINITION. Several Sensors (60_exceptions.md R139): "a model of n sensors is the product of n independent copies". -/

namespace Sys2Proof.Machine

/-- n Sensors, each with its own block, model and words to come. -/
abbrev Sensors (n : Nat) := Vector State n

/-- One Sensor steps; the others stand still. -/
def stepSensor {n : Nat} (i : Fin n) (v : Sensors n) : Host.Outcome (Sensors n) Fault Refusal :=
  match step v[i] with
  | .next t => .next (v.set i t)
  | .fault r => .fault r
  | .refused r => .refused r

end Sys2Proof.Machine
end

