-- ==== Sys2Proof/Machine/Ports.lean ====
section
/-! DEFINITION. What the outside sees: the output ports (30_encoding.md R42) and the observation by the read context
(42_control_ops.md R107). -/

namespace Sys2Proof.Machine

/-- The code of a status on the `status` port (R51). -/
def Status.code : Status → Code2
  | .good => 0#2
  | .badChecksum => 1#2
  | .badData => 2#2
  | .timeout => 3#2

/-- The status of a code: every u2 value is one (R23, item 4). -/
def Status.ofCode : Code2 → Status
  | 0#2 => .good
  | 1#2 => .badChecksum
  | 2#2 => .badData
  | _ => .timeout

/-- The output ports (R42). -/
structure Outputs where
  status : Code2
  temperatureX10 : Tenths
  humidityX10 : Tenths
  newData : BitVec 1
  busy : BitVec 1
  deriving DecidableEq, Repr

/-- "The outputs show the current value of the state element of the same name at all times"; `busy` equals `in_frame` (R42). -/
def State.outputs (s : State) : Outputs where
  status := s.status.code
  temperatureX10 := s.temperatureX10
  humidityX10 := s.humidityX10
  newData := BitVec.ofBool s.newData
  busy := BitVec.ofBool s.inFrame

/-- The result group (00_scope.md R9): the fields the read context observes. -/
structure ResultGroup where
  status : Status
  temperatureX10 : Tenths
  humidityX10 : Tenths
  newData : Bool
  deriving DecidableEq, Repr

/-- An observation: the four values of one state (R36, R107). It is a function of the state and changes nothing. -/
def State.observe (s : State) : ResultGroup where
  status := s.status
  temperatureX10 := s.temperatureX10
  humidityX10 := s.humidityX10
  newData := s.newData

end Sys2Proof.Machine
end

