-- ==== Sys2Proof/Machine/Environment.lean ====
section
/-! DEFINITION. The environment's side of the contract: each agent's step (00_scope.md R7), sequences of event words
(70_reset_and_hazards.md R166), the pseudo-events of the event script (30_encoding.md R57, R58), a read (42_control_ops.md
R108) and cancel (R106). -/

namespace Sys2Proof.Machine

/-- The edge context delivers one rising edge (R7, item a; R136). -/
def edgeContextStep (level : BitVec 1) (tick : Tick) (s : State) : Host.Outcome State Fault Refusal :=
  present (encodeEvent (.edge level tick)) s

/-- The read context arms (R7, item b; R102). -/
def readContextStep (s : State) : Host.Outcome State Fault Refusal := present (encodeEvent (.arm 0)) s

/-- The constructor delivers RESET (R7, item c; R100). -/
def constructorStep (s : State) : Host.Outcome State Fault Refusal := present (encodeEvent (.reset 0)) s

/-- A sequence of event words, one atomic step each, in order (R38). -/
def runWords : List EventWord → State → Host.Outcome State Fault Refusal
  | [], s => .next s
  | w :: rest, s =>
    match present w s with
    | .next t => runWords rest t
    | .fault r => .fault r
    | .refused r => .refused r

/-- `GAP n` repeated: the words of edges, level High, with these intervals one after the other, `t` the tick of the edge
before the first (R58). -/
def gaps (t : Tick) : List Tick → List EventWord
  | [] => []
  | n :: rest => encodeEvent (.edge 1 (t + n)) :: gaps (t + n) rest

/-- `BITS`: interval `z` for a 0 and `o` for a 1 (R58). -/
def bitIntervals (z o : Tick) (bits : List Bool) : List Tick := bits.map fun b => if b then o else z

/-- The 40 bits of a frame in the order they are sent: the n-th, n = 1 to 40, is bit `40 - n` (R32, R56). -/
def frameBits (f : Frame) : List Bool := (List.range 40).map fun n => f.getLsbD (39 - n)

/-- `SENDFRAME`: sync, two discard edges and the 40 data edges, 43 words (R56, R58). -/
def sendFrame (t : Tick) (f : Frame) (sync k1 k2 z o : Tick) : List EventWord :=
  gaps t (sync :: k1 :: k2 :: bitIntervals z o (frameBits f))

/-- What a read returns of the block's state (R108). The timestamp and the line identifier are the read context's own
and outside the core (D19). -/
structure Reading where
  status : Status
  temperatureX10 : Tenths
  humidityX10 : Tenths
  deriving DecidableEq, Repr

/-- The Reading of the final observation (R108). -/
def ResultGroup.reading (g : ResultGroup) : Reading where
  status := g.status
  temperatureX10 := g.temperatureX10
  humidityX10 := g.humidityX10

/-- The polls of a read (R108): each waits, and the words of its list arrive meanwhile; then `new_data` is observed and,
if set, the polling stops. The number of lists is POLL_ATTEMPTS, an open parameter. -/
def pollLoop : List (List EventWord) → State → Host.Outcome State Fault Refusal
  | [], s => .next s
  | ws :: more, s =>
    match runWords ws s with
    | .next t => if t.newData then .next t else pollLoop more t
    | .fault r => .fault r
    | .refused r => .refused r

/-- `read()` (R108): ARM, the polls, one final observation (notes/assumptions/12.md). It has its steps in every state; what it
returns is claimed only under `launchPremise` (R155). -/
def read (polls : List (List EventWord)) (s : State) : Host.Outcome (State × Reading) Fault Refusal :=
  match readContextStep s with
  | .next t =>
    match pollLoop polls t with
    | .next u => .next (u, u.observe.reading)
    | .fault r => .fault r
    | .refused r => .refused r
  | .fault r => .fault r
  | .refused r => .refused r

/-- Whether a word is a trigger's ARM. -/
def isArmWord (w : EventWord) : Bool :=
  match decodeEvent w with
  | .arm _ => true
  | .reset _ => false
  | .nop _ => false
  | .edge _ _ => false
  | .reserved _ => false

/-- The launch premise of a claim about a read (70_reset_and_hazards.md R155, 93_implementation_defined.md U1): "no ARM between a
SYNC and the end of its frame, and no ARM while another read is polling". The read's own ARM finds the decoder Idle, and
none of the words that come while it polls is an ARM (DEDUCED, notes/assumptions/16.md). The steps themselves do not need it. -/
def launchPremise (polls : List (List EventWord)) (s : State) : Prop :=
  s.inFrame = false ∧ ∀ w ∈ polls.flatten, isArmWord w = false

/-- Whether a word is an edge notification. -/
def isEdgeWord (w : EventWord) : Bool :=
  match decodeEvent w with
  | .edge _ _ => true
  | .reset _ => false
  | .arm _ => false
  | .nop _ => false
  | .reserved _ => false

/-- `cancel` (R106): no EDGE event is presented any more. An action on the environment: it writes no state element. EDGE words
listed after a later RESET word, which by R100 may stand for a new Sensor on the same line, are dropped too: the spec speaks of
"this Sensor" only, and the model takes one State for one Sensor's whole life (DESIGN CHOICE, notes/assumptions/13.md). -/
def cancel (s : State) : State := { s with events := s.events.filter fun w => !isEdgeWord w }

end Sys2Proof.Machine
end

