-- ==== Sys2Proof/Safety.lean ====
section
/-! DEFINITION. The invariant of 10_state.md R23 and R94, legal configurations and words (30_encoding.md R53), and the
equivalence of states that only dead registers tell apart (R22). -/

namespace Sys2Proof.Machine

/-- Every DHT11 or DHTxx reading lies here (41_frame_validator.md R94). -/
def State.valuesInRange (s : State) : Prop :=
  (-500 ≤ s.temperatureX10.toInt ∧ s.temperatureX10.toInt ≤ 1350) ∧ s.humidityX10.toNat ≤ 1100

/-- The invariant (R23): items 1 to 3, and R94 for every state that vouches for its values. -/
structure State.Inv (s : State) : Prop where
  /-- R23, item 1. -/
  bits_range : -2 ≤ s.bits.toInt ∧ s.bits.toInt ≤ 40
  /-- R23, item 2. -/
  frame_open : s.inFrame = true → s.bits.toInt ≤ 39
  /-- R23, item 3. -/
  code_small : s.inFrame = true → s.code.toNat < 2 ^ s.bits.toInt.toNat
  /-- R94 with R15: `status` is Good only from a VALIDATE that stored values in range. -/
  good_values : s.status = .good → s.valuesInRange
  /-- R23, item 5, with R94: with `FLAG_ON_INVALID` false the flag stands only over the values of a Good. -/
  flag_values : s.params.flagOnInvalid = false → s.newData = true → s.valuesInRange

/-- The configuration is one of the source's three models (R53, item 1). -/
def State.configured (s : State) : Prop := s.modelPort ≠ 3#2

/-- The word is not the reserved one (R53, item 2). -/
def notReserved (w : EventWord) : Bool :=
  match decodeEvent w with
  | .reserved _ => false
  | .reset _ => true
  | .arm _ => true
  | .nop _ => true
  | .edge _ _ => true

/-- The word leaves the read context's pending value alone: neither RESET nor ARM (R18). -/
def keepsFlag (w : EventWord) : Bool :=
  match decodeEvent w with
  | .reset _ => false
  | .arm _ => false
  | .nop _ => true
  | .edge _ _ => true
  | .reserved _ => true

/-- The word is the 40th data edge of a frame: an edge of class BIT0 or BIT1 that brings `bits` to 40 (R69). -/
def completes (w : EventWord) (s : State) : Prop :=
  s.bits + 1 = 40#7 ∧
    ∃ level tick, decode s.edgeContext (.event w) = .edgeBit0 level tick ∨
      decode s.edgeContext (.event w) = .edgeBit1 level tick

/-- An interval that carries a bit (R56, item 3): from 60 to 100 for a 0, from 101 to 150 for a 1. -/
def carries (bit : Bool) (interval : Tick) : Prop :=
  if bit then 101 ≤ interval.toNat ∧ interval.toNat ≤ 150 else 60 ≤ interval.toNat ∧ interval.toNat ≤ 100

/-- Equal but for `bits` and `code`, which may differ while `in_frame = 0` (R22). -/
def sameButDead (s t : State) : Prop :=
  t = { s with bits := t.bits, code := t.code } ∧
    (s.inFrame = true → t.bits = s.bits ∧ t.code = s.code)

/-- Both runs go on, to states that only dead registers tell apart, or both stop for the same reason. -/
def sameOutcome : Host.Outcome State Fault Refusal → Host.Outcome State Fault Refusal → Prop
  | .next s, .next t => sameButDead s t
  | .refused r, .refused q => r = q
  | .next _, .refused _ => False
  | .refused _, .next _ => False

end Sys2Proof.Machine
end

