-- ==== Sys2Proof/Certificates/Slice0/Obligations.lean ====
section
/-! DEFINITION. The statements for the provers. They come from the numbered rules of spec/. Every statement about states
holds for every value of the parameters (`B0_AT_MSB`, `FLAG_ON_INVALID`, `LAST_TICK_INIT`, the defaults) and of the
configured model, since these are fields of State. -/

open Sys2Proof Sys2Proof.Machine

/-! ## Encoding -/

/-- Words written out from the tables of 30_encoding.md R44, R57 and 95_test_vectors.md 2.3 and 2.5 (E1 to E12, K6, K8, K9). -/
def Obligations.TableWordsDecode : Prop :=
  decodeEvent 0x800000000#36 = .reset 0 ∧
  decodeEvent 0xFFFFFFFFF#36 = .reset (BitVec.allOnes 35) ∧
  decodeEvent 0x400000000#36 = .arm 0 ∧
  decodeEvent 0x1FFFFFFFF#36 = .nop (BitVec.allOnes 33) ∧
  decodeEvent 0x600000000#36 = .reserved 0 ∧
  decode ⟨0, false, 0⟩ (.event 0x300004E20#36) = .edgeSync 1 20000 ∧
  decode ⟨500, false, 0⟩ (.event 0x300000244#36) = .edgeIgnore 1 580 ∧
  decode ⟨20000, true, BitVec.ofInt 7 (-2)⟩ (.event 0x300004E8E#36) = .edgeSkip 1 20110 ∧
  decode ⟨20240, true, 0⟩ (.event 0x300004F5C#36) = .edgeBit0 1 20316 ∧
  decode ⟨1000, true, 7⟩ (.event 0x20000044D#36) = .edgeBit1 0 1101 ∧
  decode ⟨14032, true, 12⟩ (.event 0x300003798#36) = .edgeViol 1 14232 ∧
  decode ⟨0, false, 0⟩ (.frame .dht11 0x550019003C#40) = .validateDht11 0x550019003C#40

/-- R44: each event is exactly its row's match under its row's mask; an EDGE's tick is E[31:0]; the other bits are ignored. -/
def Obligations.StrobesSelectEvent : Prop :=
  (∀ w : EventWord,
    ((∃ x, decodeEvent w = .reset x) ↔ w &&& 0x800000000#36 = 0x800000000#36) ∧
    ((∃ x, decodeEvent w = .arm x) ↔ w &&& 0xE00000000#36 = 0x400000000#36) ∧
    ((∃ level tick, decodeEvent w = .edge level tick) ↔ w &&& 0xE00000000#36 = 0x200000000#36) ∧
    ((∃ x, decodeEvent w = .nop x) ↔ w &&& 0xE00000000#36 = 0x000000000#36) ∧
    ((∃ x, decodeEvent w = .reserved x) ↔ w &&& 0xE00000000#36 = 0x600000000#36) ∧
    (∀ level tick, decodeEvent w = .edge level tick → tick = w.extractLsb' 0 32)) ∧
  (∀ s : State,
    (∀ x y, exec (.reset x) s = exec (.reset y) s) ∧
    (∀ x y, exec (.arm x) s = exec (.arm y) s) ∧
    (∀ x y, exec (.nop x) s = exec (.nop y) s) ∧
    (∀ level level' tick,
      present (encodeEvent (.edge level tick)) s = present (encodeEvent (.edge level' tick)) s))

/-- R47: the ordered tests give a class exactly when that class's condition in the opcode table holds. So for every
interval and state exactly one of the six conditions holds. -/
def Obligations.ClassIsItsRowsCondition : Prop :=
  ∀ (c : EdgeClass) (interval : Tick) (inFrame : Bool) (bits : Counter),
    classify interval inFrame bits = c ↔ c.condition interval inFrame bits = true

/-- R72: the boundary intervals of a data edge, a discard edge and an idle edge. -/
def Obligations.BoundaryIntervals : Prop :=
  (∀ bits : Counter, 0 ≤ bits.toInt →
    classify 0 true bits = .viol ∧ classify 59 true bits = .viol ∧
    classify 60 true bits = .bit0 ∧ classify 100 true bits = .bit0 ∧
    classify 101 true bits = .bit1 ∧ classify 150 true bits = .bit1 ∧
    classify 151 true bits = .viol ∧ classify 9999 true bits = .viol ∧
    classify 10000 true bits = .viol ∧ classify 10001 true bits = .sync ∧
    classify 4294967295 true bits = .sync) ∧
  (∀ (interval : Tick) (bits : Counter), bits.toInt = -2 ∨ bits.toInt = -1 →
    classify interval true bits = if interval.toNat ≤ 10000 then .skip else .sync) ∧
  (∀ (interval : Tick) (bits : Counter),
    classify interval false bits = if interval.toNat ≤ 10000 then .ignore else .sync)

/-- For every instruction and context: decoding its word gives it back exactly when it is well formed there. That the bits a word
ignores are operands is the model's choice (notes/assumptions/11.md). -/
def Obligations.DecodeEncodeAgree : Prop :=
  ∀ (ctx : EdgeContext) (i : Instr), decode ctx (encode i) = i ↔ i.wellFormed ctx = true

/-- For every event word and every frame: the decoded instruction is well formed in the context, and its word is the one decoded.
That the bits a word ignores come back is the model's choice: it keeps them, and the level, as operands (notes/assumptions/11.md);
the rules say only that they are ignored. -/
def Obligations.EncodeDecodeAgree : Prop :=
  ∀ (ctx : EdgeContext) (e : Encoded), encode (decode ctx e) = e ∧ (decode ctx e).wellFormed ctx = true

/-- R51, R52: the codes of the two enumerations on the ports; code 3 of the model is no model. -/
def Obligations.EnumCodes : Prop :=
  (Status.code .good = 0 ∧ Status.code .badChecksum = 1 ∧ Status.code .badData = 2 ∧ Status.code .timeout = 3) ∧
  (SensorModel.ofCode 0 = some .auto ∧ SensorModel.ofCode 1 = some .dht11 ∧ SensorModel.ofCode 2 = some .dhtxx ∧
    SensorModel.ofCode 3 = none) ∧
  (∀ st : Status, Status.ofCode st.code = st) ∧ (∀ c : Code2, (Status.ofCode c).code = c)

/-! ## The interval -/

/-- R60: `WrapDiff(a, b) = (b - a) mod 2^32`, its source example and its properties: the same tick gives 0, an elapsed
count is recovered modulo 2^32, and a tick that steps back by `k` gives `2^32 - k`. -/
def Obligations.WrapDiffRecoversElapsed : Prop :=
  (∀ a b : Tick, ((wrapDiff a b).toNat : Int) = ((b.toNat : Int) - (a.toNat : Int)) % 2 ^ 32) ∧
  wrapDiff 4294967290 5 = 11 ∧
  (∀ a : Tick, wrapDiff a a = 0) ∧
  (∀ (a : Tick) (n : Nat), (wrapDiff a (BitVec.ofNat 32 (a.toNat + n))).toNat = n % 2 ^ 32) ∧
  (∀ (a b : Tick) (k : Nat), 0 < k → b.toNat + k = a.toNat → (wrapDiff a b).toNat = 2 ^ 32 - k)

/-! ## The edge decoder -/

/-- R63. Condition and effect of SYNC; everything else is unchanged. -/
def Obligations.SyncStartsFrame : Prop :=
  ∀ (level : BitVec 1) (tick : Tick) (s : State),
    ((s.interval tick).toNat > 10000 →
      decode s.edgeContext (.event (encodeEvent (.edge level tick))) = .edgeSync level tick) ∧
    exec (.edgeSync level tick) s
      = .next { s with lastTick := tick, inFrame := true, bits := BitVec.ofInt 7 (-2), code := 0 }

/-- R64. Condition and effect of IGNORE; everything else is unchanged. -/
def Obligations.IgnoreNotesTickOnly : Prop :=
  ∀ (level : BitVec 1) (tick : Tick) (s : State),
    ((s.interval tick).toNat ≤ 10000 → s.inFrame = false →
      decode s.edgeContext (.event (encodeEvent (.edge level tick))) = .edgeIgnore level tick) ∧
    exec (.edgeIgnore level tick) s = .next { s with lastTick := tick }

/-- R65. Condition and effect of SKIP, whatever the interval up to 10000; everything else is unchanged. -/
def Obligations.SkipCountsOnly : Prop :=
  ∀ (level : BitVec 1) (tick : Tick) (s : State),
    ((s.interval tick).toNat ≤ 10000 → s.inFrame = true → s.bits.toInt = -2 ∨ s.bits.toInt = -1 →
      decode s.edgeContext (.event (encodeEvent (.edge level tick))) = .edgeSkip level tick) ∧
    exec (.edgeSkip level tick) s = .next { s with lastTick := tick, bits := s.bits + 1 }

/-- R66 with R69. Condition and effect of BIT0: before the 40th data edge, and at it under a configured model. -/
def Obligations.BitZeroShiftsAndCompletes : Prop :=
  ∀ (level : BitVec 1) (tick : Tick) (s : State),
    (s.inFrame = true → 0 ≤ s.bits.toInt → 60 ≤ (s.interval tick).toNat → (s.interval tick).toNat ≤ 100 →
      decode s.edgeContext (.event (encodeEvent (.edge level tick))) = .edgeBit0 level tick) ∧
    (s.bits + 1 ≠ 40#7 →
      exec (.edgeBit0 level tick) s
        = .next { s with lastTick := tick, bits := s.bits + 1, code := s.code <<< 1 }) ∧
    (∀ m, s.bits + 1 = 40#7 → s.sensorModel = some m →
      exec (.edgeBit0 level tick) s
        = .next { validate m (s.code <<< 1) { s with lastTick := tick, bits := 40#7, code := s.code <<< 1 } with
            inFrame := false })

/-- R67 with R69. Condition and effect of BIT1: before the 40th data edge, and at it under a configured model. -/
def Obligations.BitOneShiftsAndCompletes : Prop :=
  ∀ (level : BitVec 1) (tick : Tick) (s : State),
    (s.inFrame = true → 0 ≤ s.bits.toInt → 101 ≤ (s.interval tick).toNat → (s.interval tick).toNat ≤ 150 →
      decode s.edgeContext (.event (encodeEvent (.edge level tick))) = .edgeBit1 level tick) ∧
    (s.bits + 1 ≠ 40#7 →
      exec (.edgeBit1 level tick) s
        = .next { s with lastTick := tick, bits := s.bits + 1, code := s.code <<< 1 + 1 }) ∧
    (∀ m, s.bits + 1 = 40#7 → s.sensorModel = some m →
      exec (.edgeBit1 level tick) s
        = .next { validate m (s.code <<< 1 + 1) { s with lastTick := tick, bits := 40#7, code := s.code <<< 1 + 1 } with
            inFrame := false })

/-- R68. Condition and effect of VIOL, the 40th data edge included: the result group is untouched, nothing is validated. -/
def Obligations.ViolationAbandonsFrame : Prop :=
  ∀ (level : BitVec 1) (tick : Tick) (s : State),
    (s.inFrame = true → 0 ≤ s.bits.toInt →
      (s.interval tick).toNat < 60 ∨ (150 < (s.interval tick).toNat ∧ (s.interval tick).toNat ≤ 10000) →
      decode s.edgeContext (.event (encodeEvent (.edge level tick))) = .edgeViol level tick) ∧
    exec (.edgeViol level tick) s
      = .next { s with lastTick := tick, bits := s.bits + 1, code := s.code <<< 1, inFrame := false }

/-- R62: the machine's step on an edge, by classes, is the master rule's pseudocode. That the word stands in a list in State is
the model's choice (notes/assumptions/1.md); the premise on `bits` is part of the invariant of R23 and shuts out states that no
run reaches, where the two may differ (notes/assumptions/9.md). -/
def Obligations.EdgeStepIsMasterRule : Prop :=
  ∀ (s : State) (m : SensorModel) (level : BitVec 1) (tick : Tick) (rest : List EventWord),
    s.sensorModel = some m → s.bits.toInt ≤ 40 → s.events = encodeEvent (.edge level tick) :: rest →
    step s = .next (edgeAlgorithm m tick { s with events := rest })

/-- R74, R45: the level is no operand, in any state. -/
def Obligations.LevelIsNoOperand : Prop :=
  ∀ (level level' : BitVec 1) (tick : Tick) (s : State) (c : EdgeClass),
    exec (edgeInstr c level tick) s = exec (edgeInstr c level' tick) s ∧
    edgeContextStep level tick s = edgeContextStep level' tick s

/-- R70 with R23, item 3: in a frame the shift loses no bit, and the register is twice its old value plus the bit. -/
def Obligations.ShiftLosesNoBit : Prop :=
  ∀ (s : State) (bit : Bool), s.Inv → s.inFrame = true →
    s.code.getLsbD 39 = false ∧ (s.shiftIn bit).code.toNat = 2 * s.code.toNat + bit.toNat

/-! ## The validator -/

/-- R33: `Bytes` from either end: the fields, and the two numberings read the same bytes in opposite order. -/
def Obligations.FrameBytesFromEitherEnd : Prop :=
  ∀ f : Frame,
    frameBytes true f = ⟨f.extractLsb' 32 8, f.extractLsb' 24 8, f.extractLsb' 16 8, f.extractLsb' 8 8, f.extractLsb' 0 8⟩ ∧
    frameBytes false f = ⟨f.extractLsb' 0 8, f.extractLsb' 8 8, f.extractLsb' 16 8, f.extractLsb' 24 8, f.extractLsb' 32 8⟩ ∧
    (∀ b0AtMsb, frameOfBytes b0AtMsb (frameBytes b0AtMsb f) = f) ∧
    (∀ b0AtMsb b, frameBytes b0AtMsb (frameOfBytes b0AtMsb b) = b)

/-- R81, R82: a checksum mismatch is BadChecksum under every model, whatever the payload; only `status` is written, and the
flag when FLAG_ON_INVALID is set. -/
def Obligations.MismatchIsBadChecksum : Prop :=
  ∀ (m : SensorModel) (f : Frame) (s : State) (b : FrameBytes),
    b = frameBytes s.params.b0AtMsb f →
    (b.b1.toNat + b.b2.toNat + b.b3.toNat + b.b4.toNat) % 256 ≠ b.b0.toNat →
    exec (validateInstr m f) s
      = .next { s with status := .badChecksum, newData := s.newData || s.params.flagOnInvalid }

/-- R83 with R87, R88: VALIDATE under the DHT11 layout when the checksum matches, in range and out of range. -/
def Obligations.Dht11LayoutOutcome : Prop :=
  ∀ (f : Frame) (s : State) (b : FrameBytes),
    b = frameBytes s.params.b0AtMsb f →
    (b.b1.toNat + b.b2.toNat + b.b3.toNat + b.b4.toNat) % 256 = b.b0.toNat →
    let t10 := 10 * b.b2.toNat + b.b1.toNat
    let h10 := 10 * b.b4.toNat + b.b3.toNat
    ((t10 ≤ 600 ∧ 90 ≤ h10 ∧ h10 ≤ 900) →
      exec (.validateDht11 f) s = .next { s with
        status := .good, temperatureX10 := BitVec.ofNat 16 t10, humidityX10 := BitVec.ofNat 16 h10, newData := true }) ∧
    (¬(t10 ≤ 600 ∧ 90 ≤ h10 ∧ h10 ≤ 900) →
      exec (.validateDht11 f) s
        = .next { s with status := .badData, newData := s.newData || s.params.flagOnInvalid })

/-- R84 with R87, R88: VALIDATE under the DHTxx layout when the checksum matches, in range and out of range. -/
def Obligations.DhtxxLayoutOutcome : Prop :=
  ∀ (f : Frame) (s : State) (b : FrameBytes),
    b = frameBytes s.params.b0AtMsb f →
    (b.b1.toNat + b.b2.toNat + b.b3.toNat + b.b4.toNat) % 256 = b.b0.toNat →
    let mag : Int := (b.b2.toNat % 128 : Nat) * 256 + b.b1.toNat
    let t10 : Int := if 128 ≤ b.b2.toNat then -mag else mag
    let h10 := 256 * b.b4.toNat + b.b3.toNat
    ((h10 ≤ 1100 ∧ -500 ≤ t10 ∧ t10 ≤ 1350) →
      exec (.validateDhtxx f) s = .next { s with
        status := .good, temperatureX10 := BitVec.ofInt 16 t10, humidityX10 := BitVec.ofNat 16 h10, newData := true }) ∧
    (¬(h10 ≤ 1100 ∧ -500 ≤ t10 ∧ t10 ≤ 1350) →
      exec (.validateDhtxx f) s
        = .next { s with status := .badData, newData := s.newData || s.params.flagOnInvalid })

/-- R85, R86: Auto completes in every state, and is the DHTxx outcome unless that layout fails its range check on a matching
checksum, when it is the DHT11 outcome. -/
def Obligations.AutoTriesDhtxxFirst : Prop :=
  ∀ (f : Frame) (s : State) (b : FrameBytes),
    b = frameBytes s.params.b0AtMsb f →
    (∃ t, exec (.validateAuto f) s = .next t) ∧
    ((layoutDhtxx b.b1 b.b2 b.b3 b.b4).valid = true → exec (.validateAuto f) s = exec (.validateDhtxx f) s) ∧
    ((layoutDhtxx b.b1 b.b2 b.b3 b.b4).valid = false → exec (.validateAuto f) s = exec (.validateDht11 f) s)

/-- R96: the two frames of the rule, with b0 at the most significant end: one valid under both layouts is reported with the
DHTxx values, one just out of the DHTxx range passes the DHT11 retry. -/
def Obligations.AutoAmbiguityExamples : Prop :=
  ∀ s : State, s.params.b0AtMsb = true →
    exec (.validateAuto 0x6105015A01#40) s
      = .next { s with status := .good, temperatureX10 := 261, humidityX10 := 346, newData := true } ∧
    exec (.validateDht11 0x6105015A01#40) s
      = .next { s with status := .good, temperatureX10 := 15, humidityX10 := 100, newData := true } ∧
    exec (.validateAuto 0xDD47059001#40) s
      = .next { s with status := .good, temperatureX10 := 121, humidityX10 := 154, newData := true } ∧
    exec (.validateDhtxx 0xDD47059001#40) s
      = .next { s with status := .badData, newData := s.newData || s.params.flagOnInvalid }

/-- R95 for the DHT11 layout: the frame built from a temperature and a humidity in range decodes to them. -/
def Obligations.Dht11RoundTrip : Prop :=
  ∀ (s : State) (t10 h10 : Nat), t10 ≤ 600 → 90 ≤ h10 → h10 ≤ 900 →
    let b1 : Byte := BitVec.ofNat 8 (t10 % 10)
    let b2 : Byte := BitVec.ofNat 8 (t10 / 10)
    let b3 : Byte := BitVec.ofNat 8 (h10 % 10)
    let b4 : Byte := BitVec.ofNat 8 (h10 / 10)
    exec (.validateDht11 (frameOfBytes s.params.b0AtMsb
        ⟨BitVec.ofNat 8 (checksum b1 b2 b3 b4), b1, b2, b3, b4⟩)) s
      = .next { s with
          status := .good, temperatureX10 := BitVec.ofNat 16 t10, humidityX10 := BitVec.ofNat 16 h10, newData := true }

/-- R95 for the DHTxx layout, negative temperatures included: the frame built from a temperature and a humidity in range
decodes to them, and under Auto as well. -/
def Obligations.DhtxxRoundTrip : Prop :=
  ∀ (s : State) (t10 : Int) (h10 : Nat), -500 ≤ t10 → t10 ≤ 1350 → h10 ≤ 1100 →
    let b1 : Byte := BitVec.ofNat 8 (t10.natAbs % 256)
    let b2 : Byte := BitVec.ofNat 8 ((if t10 < 0 then 128 else 0) + t10.natAbs / 256)
    let b3 : Byte := BitVec.ofNat 8 (h10 % 256)
    let b4 : Byte := BitVec.ofNat 8 (h10 / 256)
    let f := frameOfBytes s.params.b0AtMsb ⟨BitVec.ofNat 8 (checksum b1 b2 b3 b4), b1, b2, b3, b4⟩
    let t : State := { s with
      status := .good, temperatureX10 := BitVec.ofInt 16 t10, humidityX10 := BitVec.ofNat 16 h10, newData := true }
    exec (.validateDhtxx f) s = .next t ∧ exec (.validateAuto f) s = .next t

/-- R94: after a Good of each layout the stored values lie in that layout's ranges, under Auto in the overall ranges. -/
def Obligations.StoredValuesInRange : Prop :=
  ∀ (f : Frame) (s t : State), t.status = .good →
    (exec (.validateDht11 f) s = .next t →
      0 ≤ t.temperatureX10.toInt ∧ t.temperatureX10.toInt ≤ 600 ∧ 90 ≤ t.humidityX10.toNat ∧ t.humidityX10.toNat ≤ 900) ∧
    (exec (.validateDhtxx f) s = .next t →
      -500 ≤ t.temperatureX10.toInt ∧ t.temperatureX10.toInt ≤ 1350 ∧ t.humidityX10.toNat ≤ 1100) ∧
    (exec (.validateAuto f) s = .next t →
      -500 ≤ t.temperatureX10.toInt ∧ t.temperatureX10.toInt ≤ 1350 ∧ t.humidityX10.toNat ≤ 1100)

/-! ## Control events -/

/-- R100: RESET's eight writes, in every state, and `rst` overrides every other bit of the word. -/
def Obligations.ResetWritesAllEight : Prop :=
  (∀ (x : BitVec 35) (s : State),
    exec (.reset x) s = .next { s with
      lastTick := s.params.lastTickInit, inFrame := false, bits := 0, code := 0, status := .timeout,
      temperatureX10 := s.params.tempDefaultX10, humidityX10 := s.params.humDefaultX10, newData := false }) ∧
  (∀ (w : EventWord) (ctx : EdgeContext), w.getLsbD 35 = true → ∃ x, decode ctx (.event w) = .reset x)

/-- R102, R103: the words of ARM, and its two writes, in every state, nothing else; two ARMs in a row equal one. -/
def Obligations.ArmPendsResult : Prop :=
  (∀ (x y : BitVec 33) (s : State),
    exec (.arm x) s = .next { s with status := .timeout, newData := false } ∧
    exec (.arm y) { s with status := .timeout, newData := false } = .next { s with status := .timeout, newData := false }) ∧
  ∀ (w : EventWord) (ctx : EdgeContext),
    w.getLsbD 35 = false → w.getLsbD 34 = true → w.getLsbD 33 = false → ∃ x, decode ctx (.event w) = .arm x

/-- R101: all three strobes 0 is a NOP, and NOP changes no state. -/
def Obligations.NopChangesNothing : Prop :=
  (∀ (x : BitVec 33) (s : State), exec (.nop x) s = .next s) ∧
  ∀ (w : EventWord) (ctx : EdgeContext),
    w.getLsbD 35 = false → w.getLsbD 34 = false → w.getLsbD 33 = false → ∃ x, decode ctx (.event w) = .nop x

/-- R53: the reserved word and the reserved model code are refused, by name. That code 3 refuses every step is deduced
(notes/assumptions/8.md). -/
def Obligations.ReservedEncodingsRefused : Prop :=
  (∀ (x : BitVec 33) (s : State), exec (.reservedArmEdge x) s = .refused .reservedArmEdge) ∧
  (∀ (s : State) (w : EventWord) (rest : List EventWord), s.modelPort ≠ 3 → s.events = w :: rest →
    w &&& 0xE00000000#36 = 0x600000000#36 → step s = .refused .reservedArmEdge) ∧
  (∀ s : State, s.modelPort = 3 → step s = .refused .reservedModel)

/-- R85, R53: the edge that would run VALIDATE under the reserved model code is refused too (deduced, notes/assumptions/8.md). -/
def Obligations.CompletionUnderReservedModel : Prop :=
  ∀ (level : BitVec 1) (tick : Tick) (s : State), s.modelPort = 3 → s.bits + 1 = 40#7 →
    exec (.edgeBit0 level tick) s = .refused .reservedModel ∧ exec (.edgeBit1 level tick) s = .refused .reservedModel

/-- R24: the reset values, for every parameter and every configured model. -/
def Obligations.ResetValues : Prop :=
  ∀ (p : Params) (port : Code2),
    (State.resetWith p port).lastTick = p.lastTickInit ∧ (State.resetWith p port).inFrame = false ∧
    (State.resetWith p port).bits = 0 ∧ (State.resetWith p port).code = 0 ∧
    (State.resetWith p port).status = .timeout ∧ (State.resetWith p port).temperatureX10 = p.tempDefaultX10 ∧
    (State.resetWith p port).humidityX10 = p.humDefaultX10 ∧ (State.resetWith p port).newData = false ∧
    (State.resetWith p port).modelPort = port ∧ Params.default.tempDefaultX10 = 0 ∧ Params.default.humDefaultX10 = 0

/-- R42: the output ports show the state elements of the same name, and `busy` is `in_frame`. -/
def Obligations.OutputsShowState : Prop :=
  ∀ s : State, s.outputs.status = s.status.code ∧ s.outputs.temperatureX10 = s.temperatureX10 ∧
    s.outputs.humidityX10 = s.humidityX10 ∧ (s.outputs.newData = 1 ↔ s.newData = true) ∧
    (s.outputs.busy = 1 ↔ s.inFrame = true)

/-! ## The machine -/

/-- A step runs the decoded instruction. That the words to come are a list in State, and that an empty list presents the
all-zero word, is the model's own choice (notes/assumptions/1.md). -/
def Obligations.StepRunsDecodedWord : Prop :=
  ∀ s : State, s.modelPort ≠ 3 →
    (∀ w rest, s.events = w :: rest →
      step s = exec (decode s.edgeContext (.event w)) { s with events := rest }) ∧
    (s.events = [] → step s = exec (decode s.edgeContext (.event 0)) s ∧ step s = .next s)

/-- R120, R164, R53: a step goes on exactly when neither reserved encoding is presented; nothing else can stop it. That a step
with no word listed goes on is the model's choice (notes/assumptions/1.md), and that code 3 refuses every step is deduced
(notes/assumptions/8.md). -/
def Obligations.OnlyReservedStops : Prop :=
  ∀ s : State, (∃ t, step s = .next t) ↔
    s.modelPort ≠ 3 ∧ ∀ w rest, s.events = w :: rest → w &&& 0xE00000000#36 ≠ 0x600000000#36

/-- Every instruction but the reserved one completes in every configured state, and leaves the configuration and the words to
come alone (R19, R164). -/
def Obligations.EveryInstructionCompletes : Prop :=
  ∀ (i : Instr) (s : State), s.modelPort ≠ 3 → (∀ x, i ≠ .reservedArmEdge x) →
    ∃ t, exec i s = .next t ∧ t.modelPort = s.modelPort ∧ t.params = s.params ∧ t.events = s.events

/-- R85, R41, R162: the `model` input is read only by the event that runs VALIDATE; to any other event it makes no difference
which legal code stands on the port. -/
def Obligations.ModelReadOnlyAtCompletion : Prop :=
  ∀ (w : EventWord) (p : Code2) (s t : State), p ≠ 3 → ¬completes w s → present w s = .next t →
    present w { s with modelPort := p } = .next { t with modelPort := p }

/-- The invariant of R23 and R94 holds after reset, for every parameter and model. -/
def Obligations.InvariantAtReset : Prop :=
  ∀ (p : Params) (port : Code2), (State.resetWith p port).Inv

/-- Every step keeps the invariant of R23 and R94. -/
def Obligations.StepKeepsInvariant : Prop :=
  ∀ s t : State, s.Inv → step s = .next t → t.Inv

/-- R11: an EDGE event writes its tick to `last_tick` whatever its class, RESET writes LAST_TICK_INIT; no other event writes it. -/
def Obligations.LastTickWriters : Prop :=
  ∀ (w : EventWord) (s t : State), present w s = .next t →
    (∀ level tick, decodeEvent w = .edge level tick → t.lastTick = tick) ∧
    (∀ x, decodeEvent w = .reset x → t.lastTick = s.params.lastTickInit) ∧
    (t.lastTick ≠ s.lastTick → (∃ level tick, decodeEvent w = .edge level tick) ∨ ∃ x, decodeEvent w = .reset x)

/-- R12: `in_frame` is set only by SYNC, and cleared only by VIOL, the completing edge and RESET;
RESET writes 0, ARM does not change it. -/
def Obligations.InFrameWriters : Prop :=
  ∀ (w : EventWord) (s t : State), present w s = .next t →
    ((∃ x, decodeEvent w = .reset x) → t.inFrame = false) ∧
    ((∃ x, decodeEvent w = .arm x) → t.inFrame = s.inFrame) ∧
    (s.inFrame = false → t.inFrame = true →
      ∃ level tick, decode s.edgeContext (.event w) = .edgeSync level tick) ∧
    (s.inFrame = true → t.inFrame = false →
      (∃ level tick, decode s.edgeContext (.event w) = .edgeViol level tick) ∨ completes w s ∨
        ∃ x, decodeEvent w = .reset x)

/-- R15: VALIDATE writes Good, BadChecksum or BadData, at completion only; ARM and RESET write Timeout; nothing else writes `status`. -/
def Obligations.StatusWriters : Prop :=
  ∀ (w : EventWord) (s t : State), present w s = .next t →
    (completes w s → t.status = .good ∨ t.status = .badChecksum ∨ t.status = .badData) ∧
    ((∃ x, decodeEvent w = .arm x) ∨ (∃ x, decodeEvent w = .reset x) → t.status = .timeout) ∧
    (t.status ≠ s.status → completes w s ∨ (∃ x, decodeEvent w = .arm x) ∨ ∃ x, decodeEvent w = .reset x)

/-- R16, R17: the temperature and the humidity change only in a completion that ends Good, or by RESET. -/
def Obligations.ValueWriters : Prop :=
  ∀ (w : EventWord) (s t : State), present w s = .next t →
    t.temperatureX10 ≠ s.temperatureX10 ∨ t.humidityX10 ≠ s.humidityX10 →
    (completes w s ∧ t.status = .good ∧ t.newData = true) ∨ ∃ x, decodeEvent w = .reset x

/-- R18, with FLAG_ON_INVALID at its default: the flag is set only by a VALIDATE that ends Good, and cleared only by ARM and RESET. -/
def Obligations.NewDataWriters : Prop :=
  ∀ (w : EventWord) (s t : State), s.params.flagOnInvalid = false → present w s = .next t →
    (completes w s → t.status = .good → t.newData = true) ∧
    ((∃ x, decodeEvent w = .arm x) ∨ (∃ x, decodeEvent w = .reset x) → t.newData = false) ∧
    (s.newData = false → t.newData = true → completes w s ∧ t.status = .good) ∧
    (s.newData = true → t.newData = false → (∃ x, decodeEvent w = .arm x) ∨ ∃ x, decodeEvent w = .reset x)

/-- R151: the first edge after reset is a SYNC or an IGNORE by the open LAST_TICK_INIT, and either way it is the tick that
stands in `last_tick` from then on. -/
def Obligations.FirstEdgeAfterReset : Prop :=
  ∀ (p : Params) (port : Code2) (level : BitVec 1) (tick : Tick), port ≠ 3 →
    edgeContextStep level tick (State.resetWith p port)
      = .next (if (tick - p.lastTickInit).toNat > 10000
          then { State.resetWith p port with
            lastTick := tick, inFrame := true, bits := BitVec.ofInt 7 (-2), code := 0 }
          else { State.resetWith p port with lastTick := tick })

/-! ## Sequences of events -/

/-- R164, R166, R53: a sequence of event words runs to its end exactly when the model code is legal (or no event is presented)
and no word of it is the reserved one. That code 3 refuses every event is deduced (notes/assumptions/8.md). -/
def Obligations.LegalSequencesRunToTheEnd : Prop :=
  ∀ (ws : List EventWord) (s : State),
    (∃ t, runWords ws s = .next t) ↔ (s.configured ∨ ws = []) ∧ ∀ w ∈ ws, notReserved w = true

/-- R22: states that differ only in `bits` and `code` while Idle are told apart by no sequence of events. -/
def Obligations.DeadRegistersUnobservable : Prop :=
  ∀ (ws : List EventWord) (s t : State), s.inFrame = false → t = { s with bits := t.bits, code := t.code } →
    sameOutcome (runWords ws s) (runWords ws t) ∧
    ∀ s' t', runWords ws s = .next s' → runWords ws t = .next t' →
      s'.outputs = t'.outputs ∧ s'.observe = t'.observe

/-- R56, with R32 and R130: from any configured state, Idle or not, a sync, two discard edges and forty edges that carry a
frame's bits are 43 events that put the frame in `code`, validate it and leave the decoder Idle, with nothing carried over. -/
def Obligations.SentFrameIsValidated : Prop :=
  ∀ (s : State) (m : SensorModel) (f : Frame) (sync k1 k2 : Tick) (ns : List Tick),
    s.sensorModel = some m → 10000 < sync.toNat → k1.toNat ≤ 10000 → k2.toNat ≤ 10000 →
    List.Forall₂ carries (frameBits f) ns →
    (gaps s.lastTick (sync :: k1 :: k2 :: ns)).length = 43 ∧
    runWords (gaps s.lastTick (sync :: k1 :: k2 :: ns)) s
      = .next (validate m f { s with
          lastTick := (sync :: k1 :: k2 :: ns).foldl (· + ·) s.lastTick, inFrame := false, bits := 40, code := f })

/-- R23, item 5: with FLAG_ON_INVALID false, a flag that a sequence of events set was set by a VALIDATE that ended Good in it,
with no ARM or RESET since; and the values are those of the most recent such VALIDATE. -/
def Obligations.FlagMeansGoodSinceArm : Prop :=
  ∀ (ws : List EventWord) (s t : State), s.params.flagOnInvalid = false → s.newData = false →
    runWords ws s = .next t → t.newData = true →
    ∃ (before after : List EventWord) (w : EventWord) (u v : State),
      ws = before ++ w :: after ∧ runWords before s = .next u ∧ completes w u ∧ present w u = .next v ∧
      v.status = .good ∧ v.temperatureX10 = t.temperatureX10 ∧ v.humidityX10 = t.humidityX10 ∧
      runWords after v = .next t ∧ (∀ x ∈ after, keepsFlag x = true) ∧
      ∀ (xs ys : List EventWord) (x : EventWord) (y z : State), after = xs ++ x :: ys → runWords xs v = .next y →
        present x y = .next z → completes x y → z.status ≠ .good

/-- R156: ARM and an EDGE in either order differ only when the edge completes a frame; then ARM before EDGE leaves what VALIDATE
of the completed frame makes of the armed state, its outcome in `status`, and EDGE before ARM leaves the same but for
Timeout and a clear flag. -/
def Obligations.ArmAndEdgeOrder : Prop :=
  ∀ (s : State) (x : BitVec 33) (level : BitVec 1) (tick : Tick), s.modelPort ≠ 3 →
    (¬completes (encodeEvent (.edge level tick)) s →
      runWords [encodeEvent (.arm x), encodeEvent (.edge level tick)] s
        = runWords [encodeEvent (.edge level tick), encodeEvent (.arm x)] s) ∧
    (completes (encodeEvent (.edge level tick)) s →
      ∃ (m : SensorModel) (bit : Bool), s.sensorModel = some m ∧
        decode s.edgeContext (.event (encodeEvent (.edge level tick)))
          = (if bit then .edgeBit1 level tick else .edgeBit0 level tick) ∧
        let c : Frame := s.code <<< 1 + (if bit then 1 else 0)
        let u : State := { validate m c { s with
          lastTick := tick, bits := 40#7, code := c, status := .timeout, newData := false } with inFrame := false }
        runWords [encodeEvent (.arm x), encodeEvent (.edge level tick)] s = .next u ∧
        (u.status = .good ∨ u.status = .badChecksum ∨ u.status = .badData) ∧
        runWords [encodeEvent (.edge level tick), encodeEvent (.arm x)] s
          = .next { u with status := .timeout, newData := false })

/-- The list of words in State is the sequence of events: stepping through it is running the words (R38, R166; the list is the
model's own, notes/assumptions/1.md). -/
def Obligations.StepsConsumeWords : Prop :=
  ∀ (ws rest : List EventWord) (s t : State), runWords ws s = .next t →
    Host.Core.run Sys2Proof.core ws.length { s with events := ws ++ rest } = .next { t with events := rest }

/-- A read during which nothing but NOPs is presented returns Timeout with the values of before the read (R109, first row;
95_test_vectors.md S4), under the launch premise of R155 and U1. A read as ARM, batches of words and one observation is the
model's choice (notes/assumptions/12.md). -/
def Obligations.ReadWithoutEdgesTimesOut : Prop :=
  ∀ (s : State) (polls : List (List EventWord)), s.modelPort ≠ 3 → launchPremise polls s →
    (∀ ws ∈ polls, ∀ w ∈ ws, ∃ x, decodeEvent w = .nop x) →
    read polls s = .next ({ s with status := .timeout, newData := false },
      ⟨.timeout, s.temperatureX10, s.humidityX10⟩)

/-- R109, first row: a read during which no frame reaches VALIDATE (no edges, or only partial or violated frames) returns
Timeout with the values of before the read, the flag clear, under the launch premise of R155 and U1. A read as ARM, batches
of words and one observation is the model's choice (notes/assumptions/12.md). -/
def Obligations.ReadWithoutFrameTimesOut : Prop :=
  ∀ (s : State) (polls : List (List EventWord)), s.modelPort ≠ 3 → launchPremise polls s →
    (∀ w ∈ polls.flatten, keepsFlag w = true ∧ notReserved w = true) →
    (∀ (before after : List EventWord) (w : EventWord) (u : State), polls.flatten = before ++ w :: after →
      runWords before { s with status := .timeout, newData := false } = .next u → ¬completes w u) →
    ∃ t, read polls s = .next (t, ⟨.timeout, s.temperatureX10, s.humidityX10⟩) ∧ t.newData = false

/-- A read in whose first poll one whole frame arrives stops polling there and returns the frame's values when it validates
(R108; R109, second row), under the launch premise of R155 and U1 for that poll. A read as ARM, batches of words and one
observation is the model's choice (notes/assumptions/12.md). -/
def Obligations.ReadReturnsGoodFrame : Prop :=
  ∀ (s : State) (m : SensorModel) (f : Frame) (sync k1 k2 : Tick) (ns : List Tick) (more : List (List EventWord))
    (b : FrameBytes),
    s.sensorModel = some m → launchPremise [gaps s.lastTick (sync :: k1 :: k2 :: ns)] s →
    10000 < sync.toNat → k1.toNat ≤ 10000 → k2.toNat ≤ 10000 →
    List.Forall₂ carries (frameBits f) ns → b = frameBytes s.params.b0AtMsb f →
    checksum b.b1 b.b2 b.b3 b.b4 = b.b0.toNat → (decodePayload m b.b1 b.b2 b.b3 b.b4).valid = true →
    ∃ t, read (gaps s.lastTick (sync :: k1 :: k2 :: ns) :: more) s
        = .next (t, ⟨.good, BitVec.ofInt 16 (decodePayload m b.b1 b.b2 b.b3 b.b4).t10,
            BitVec.ofInt 16 (decodePayload m b.b1 b.b2 b.b3 b.b4).h10⟩) ∧
      t.newData = true ∧ t.inFrame = false ∧ t.code = f

/-- R109, third and fourth rows (FLAG_ON_INVALID false): a read in whose first poll one frame arrives that fails, and then no
more edges, polls to its end and returns the failure with the values of before the read, the flag clear, under the launch premise of
R155 and U1. A read as ARM, batches of words and one observation is the model's choice (notes/assumptions/12.md). -/
def Obligations.ReadReportsFailedFrame : Prop :=
  ∀ (s : State) (m : SensorModel) (f : Frame) (sync k1 k2 : Tick) (ns : List Tick) (more : List (List EventWord))
    (b : FrameBytes),
    s.sensorModel = some m → s.params.flagOnInvalid = false →
    launchPremise (gaps s.lastTick (sync :: k1 :: k2 :: ns) :: more) s →
    10000 < sync.toNat → k1.toNat ≤ 10000 → k2.toNat ≤ 10000 →
    List.Forall₂ carries (frameBits f) ns → (∀ ws ∈ more, ∀ w ∈ ws, ∃ x, decodeEvent w = .nop x) →
    b = frameBytes s.params.b0AtMsb f →
    (checksum b.b1 b.b2 b.b3 b.b4 ≠ b.b0.toNat →
      ∃ t, read (gaps s.lastTick (sync :: k1 :: k2 :: ns) :: more) s
        = .next (t, ⟨.badChecksum, s.temperatureX10, s.humidityX10⟩) ∧ t.newData = false) ∧
    (checksum b.b1 b.b2 b.b3 b.b4 = b.b0.toNat → (decodePayload m b.b1 b.b2 b.b3 b.b4).valid = false →
      ∃ t, read (gaps s.lastTick (sync :: k1 :: k2 :: ns) :: more) s
        = .next (t, ⟨.badData, s.temperatureX10, s.humidityX10⟩) ∧ t.newData = false)

/-- Cancel writes no state element and is idempotent; afterwards no steps ever produce a result: the status stays or is
Timeout, the flag is never set and the values only return to their defaults (R106). That cancel acts on
the list of words to come, those after a later RESET included, is the model's choice (notes/assumptions/13.md). -/
def Obligations.CancelledSensorYieldsNothing : Prop :=
  ∀ s : State,
    cancel (cancel s) = cancel s ∧ { cancel s with events := s.events } = s ∧
    ∀ (n : Nat) (t : State), Host.Core.run Sys2Proof.core n (cancel s) = .next t →
      (t.status = s.status ∨ t.status = .timeout) ∧ (t.newData = true → s.newData = true) ∧
      ((t.temperatureX10 = s.temperatureX10 ∧ t.humidityX10 = s.humidityX10) ∨
        (t.temperatureX10 = s.params.tempDefaultX10 ∧ t.humidityX10 = s.params.humDefaultX10))

/-- R139: a Sensor's step leaves every other Sensor as it is, and the steps of two Sensors commute. The product as a vector of
which one Sensor steps at a time is deduced (notes/assumptions/14.md). -/
def Obligations.SensorsAreIndependent : Prop :=
  ∀ (n : Nat) (i j : Fin n) (v a : Sensors n), i ≠ j → stepSensor i v = .next a →
    (∀ k, k ≠ i → a[k] = v[k]) ∧ step v[i] = .next a[i] ∧
    ∀ b, stepSensor j a = .next b → ∃ c, stepSensor j v = .next c ∧ stepSensor i c = .next b

/-- The host's loader: a word below 2^36 is the next step's event word; a number of 37 to 40 bits is a frame that the next step
completes, its result group that of VALIDATE on the frame (model's choice, notes/assumptions/7.md). -/
def Obligations.LoadedWordRunsNext : Prop :=
  ∀ s : State,
    (∀ w : EventWord, step (s.withFetchWord 40 w.toNat) = present w s) ∧
    (∀ (f : Frame) (m : SensorModel), s.sensorModel = some m → 2 ^ 36 ≤ f.toNat →
      ∃ t, step (s.withFetchWord 40 f.toNat) = .next t ∧ t.code = f ∧ t.observe = (validate m f s).observe)

/-- R155, R105, R103: an ARM while a frame is in flight is executed and the frame continues. From any configured state, an ARM put
before any of the 43 edges that carry a frame leaves the accumulator's course as it is: the frame is validated whole, on a result
group that the ARM has set pending. A fact about the steps; what a read returns is not claimed for such a sequence (U1). -/
def Obligations.ArmInFlightKeepsFrame : Prop :=
  ∀ (s : State) (m : SensorModel) (f : Frame) (sync k1 k2 : Tick) (ns : List Tick) (x : BitVec 33)
    (before after : List EventWord),
    s.sensorModel = some m → 10000 < sync.toNat → k1.toNat ≤ 10000 → k2.toNat ≤ 10000 →
    List.Forall₂ carries (frameBits f) ns →
    gaps s.lastTick (sync :: k1 :: k2 :: ns) = before ++ after → after ≠ [] →
    runWords (before ++ encodeEvent (.arm x) :: after) s
      = .next (validate m f { s with
          lastTick := (sync :: k1 :: k2 :: ns).foldl (· + ·) s.lastTick, inFrame := false, bits := 40, code := f,
          status := .timeout, newData := false })
end

