-- ==== Sys2Proof/Laws/Decode.lean ====
section
/-! SUPPORT. Facts about the decoder and the encoder: strobes, fields, and the class of an interval. -/

namespace Sys2Proof

/-- A bit of a word that is laid out as a field above the `k` bits of `x`. -/
theorem getLsbD_word {n k : Nat} (a : BitVec n) (x : BitVec k) (i : Nat) :
    ((a ++ x).setWidth 36 : EventWord).getLsbD i
      = (decide (i < 36) && if i < k then x.getLsbD i else a.getLsbD (i - k)) := by
  rw [BitVec.getLsbD_setWidth, BitVec.getLsbD_append]

/-- The low field of such a word. -/
theorem lowField_word {n k : Nat} (a : BitVec n) (x : BitVec k) (h : k ≤ 36) :
    ((a ++ x).setWidth 36 : EventWord).extractLsb' 0 k = x := by
  apply BitVec.eq_of_getLsbD_eq
  intro i hi
  rw [BitVec.getLsbD_extractLsb', getLsbD_word]
  simp [hi]
  omega

/-- The level of an EDGE word. -/
theorem level_word (level : BitVec 1) (tick : Tick) :
    ((0b001#3 ++ level ++ tick).setWidth 36 : EventWord).extractLsb' 32 1 = level := by
  apply BitVec.eq_of_getLsbD_eq
  intro i hi
  obtain rfl : i = 0 := by omega
  rw [BitVec.getLsbD_extractLsb', getLsbD_word, BitVec.getLsbD_append]
  simp

/-- The first-level decoder reads back each event word. -/
theorem decodeEvent_encodeEvent (e : Event) : decodeEvent (encodeEvent e) = e := by
  cases e with
  | reset x => simp only [decodeEvent, encodeEvent, getLsbD_word, lowField_word, Nat.reduceLeDiff]; simp
  | arm x => simp only [decodeEvent, encodeEvent, getLsbD_word, lowField_word, Nat.reduceLeDiff]; simp
  | nop x => simp only [decodeEvent, encodeEvent, getLsbD_word, lowField_word, Nat.reduceLeDiff]; simp
  | reserved x => simp only [decodeEvent, encodeEvent, getLsbD_word, lowField_word, Nat.reduceLeDiff]; simp
  | edge level tick =>
    simp only [decodeEvent, encodeEvent, getLsbD_word, level_word, lowField_word, Nat.reduceLeDiff,
      BitVec.getLsbD_append]
    simp

/-- A class whose row's condition holds is the class the ordered tests of R47 give. -/
theorem classify_of_condition (c : EdgeClass) (interval : Tick) (inFrame : Bool) (bits : Counter)
    (h : c.condition interval inFrame bits = true) : classify interval inFrame bits = c := by
  cases c <;> cases inFrame <;>
    simp [EdgeClass.condition, syncThreshold, pulseMin, pulseMax, oneThreshold] at h <;>
    simp only [classify, syncThreshold, pulseMin, pulseMax, oneThreshold] <;> (repeat' split) <;>
    first | rfl | (exfalso; simp_all; done) | (exfalso; simp at *; omega)

/-- The same for an edge with a tick in a context. -/
theorem classify_of_fits (c : EdgeClass) (ctx : EdgeContext) (tick : Tick) (h : c.fits ctx tick = true) :
    classify (wrapDiff ctx.lastTick tick) ctx.inFrame ctx.bits = c :=
  classify_of_condition c _ _ _ h

/-- Decoding the word of an edge: the class of its interval in the context. -/
theorem decode_edge (ctx : EdgeContext) (level : BitVec 1) (tick : Tick) :
    decode ctx (.event (encodeEvent (.edge level tick)))
      = edgeInstr (classify (wrapDiff ctx.lastTick tick) ctx.inFrame ctx.bits) level tick := by
  simp [decode, decodeEvent_encodeEvent, instrOfEvent]

/-- Decoding the word of an edge whose class is known. -/
theorem decode_edge_of_fits (c : EdgeClass) (ctx : EdgeContext) (level : BitVec 1) (tick : Tick)
    (h : c.fits ctx tick = true) :
    decode ctx (.event (encodeEvent (.edge level tick))) = edgeInstr c level tick := by
  rw [decode_edge, classify_of_fits c ctx tick h]

@[simp] theorem SensorModel.ofCode_code (m : SensorModel) : SensorModel.ofCode m.code = some m := by
  cases m <;> rfl

/-- Only code 3 has no sensor model (R52, R53). -/
theorem SensorModel.ofCode_eq_none (c : Code2) : SensorModel.ofCode c = none ↔ c = 3#2 := by
  revert c
  decide

end Sys2Proof
end

