-- ==== Sys2Proof/Laws/State.lean ====
section
/-! SUPPORT. One lemma per field per update of the state, so that no proof unfolds a record update. -/

namespace Sys2Proof.Machine

variable (s : State)

/-! ### noteTick -/

@[simp] theorem State.noteTick_lastTick (tick : Tick) : (s.noteTick tick).lastTick = tick := rfl
@[simp] theorem State.noteTick_inFrame (tick : Tick) : (s.noteTick tick).inFrame = s.inFrame := rfl
@[simp] theorem State.noteTick_bits (tick : Tick) : (s.noteTick tick).bits = s.bits := rfl
@[simp] theorem State.noteTick_code (tick : Tick) : (s.noteTick tick).code = s.code := rfl
@[simp] theorem State.noteTick_status (tick : Tick) : (s.noteTick tick).status = s.status := rfl
@[simp] theorem State.noteTick_temperatureX10 (tick : Tick) : (s.noteTick tick).temperatureX10 = s.temperatureX10 := rfl
@[simp] theorem State.noteTick_humidityX10 (tick : Tick) : (s.noteTick tick).humidityX10 = s.humidityX10 := rfl
@[simp] theorem State.noteTick_newData (tick : Tick) : (s.noteTick tick).newData = s.newData := rfl
@[simp] theorem State.noteTick_modelPort (tick : Tick) : (s.noteTick tick).modelPort = s.modelPort := rfl
@[simp] theorem State.noteTick_params (tick : Tick) : (s.noteTick tick).params = s.params := rfl
@[simp] theorem State.noteTick_events (tick : Tick) : (s.noteTick tick).events = s.events := rfl

/-! ### openFrame -/

@[simp] theorem State.openFrame_lastTick : (s.openFrame).lastTick = s.lastTick := rfl
@[simp] theorem State.openFrame_inFrame : (s.openFrame).inFrame = true := rfl
@[simp] theorem State.openFrame_bits : (s.openFrame).bits = bitsAfterSync := rfl
@[simp] theorem State.openFrame_code : (s.openFrame).code = 0 := rfl
@[simp] theorem State.openFrame_status : (s.openFrame).status = s.status := rfl
@[simp] theorem State.openFrame_temperatureX10 : (s.openFrame).temperatureX10 = s.temperatureX10 := rfl
@[simp] theorem State.openFrame_humidityX10 : (s.openFrame).humidityX10 = s.humidityX10 := rfl
@[simp] theorem State.openFrame_newData : (s.openFrame).newData = s.newData := rfl
@[simp] theorem State.openFrame_modelPort : (s.openFrame).modelPort = s.modelPort := rfl
@[simp] theorem State.openFrame_params : (s.openFrame).params = s.params := rfl
@[simp] theorem State.openFrame_events : (s.openFrame).events = s.events := rfl

/-! ### countEdge -/

@[simp] theorem State.countEdge_lastTick : (s.countEdge).lastTick = s.lastTick := rfl
@[simp] theorem State.countEdge_inFrame : (s.countEdge).inFrame = s.inFrame := rfl
@[simp] theorem State.countEdge_bits : (s.countEdge).bits = s.bits + 1 := rfl
@[simp] theorem State.countEdge_code : (s.countEdge).code = s.code := rfl
@[simp] theorem State.countEdge_status : (s.countEdge).status = s.status := rfl
@[simp] theorem State.countEdge_temperatureX10 : (s.countEdge).temperatureX10 = s.temperatureX10 := rfl
@[simp] theorem State.countEdge_humidityX10 : (s.countEdge).humidityX10 = s.humidityX10 := rfl
@[simp] theorem State.countEdge_newData : (s.countEdge).newData = s.newData := rfl
@[simp] theorem State.countEdge_modelPort : (s.countEdge).modelPort = s.modelPort := rfl
@[simp] theorem State.countEdge_params : (s.countEdge).params = s.params := rfl
@[simp] theorem State.countEdge_events : (s.countEdge).events = s.events := rfl

/-! ### shiftIn -/

@[simp] theorem State.shiftIn_lastTick (bit : Bool) : (s.shiftIn bit).lastTick = s.lastTick := rfl
@[simp] theorem State.shiftIn_inFrame (bit : Bool) : (s.shiftIn bit).inFrame = s.inFrame := rfl
@[simp] theorem State.shiftIn_bits (bit : Bool) : (s.shiftIn bit).bits = s.bits := rfl
@[simp] theorem State.shiftIn_code (bit : Bool) : (s.shiftIn bit).code = s.code <<< 1 + (if bit then 1#40 else 0#40) := rfl
@[simp] theorem State.shiftIn_status (bit : Bool) : (s.shiftIn bit).status = s.status := rfl
@[simp] theorem State.shiftIn_temperatureX10 (bit : Bool) : (s.shiftIn bit).temperatureX10 = s.temperatureX10 := rfl
@[simp] theorem State.shiftIn_humidityX10 (bit : Bool) : (s.shiftIn bit).humidityX10 = s.humidityX10 := rfl
@[simp] theorem State.shiftIn_newData (bit : Bool) : (s.shiftIn bit).newData = s.newData := rfl
@[simp] theorem State.shiftIn_modelPort (bit : Bool) : (s.shiftIn bit).modelPort = s.modelPort := rfl
@[simp] theorem State.shiftIn_params (bit : Bool) : (s.shiftIn bit).params = s.params := rfl
@[simp] theorem State.shiftIn_events (bit : Bool) : (s.shiftIn bit).events = s.events := rfl

/-! ### leaveFrame -/

@[simp] theorem State.leaveFrame_lastTick : (s.leaveFrame).lastTick = s.lastTick := rfl
@[simp] theorem State.leaveFrame_inFrame : (s.leaveFrame).inFrame = false := rfl
@[simp] theorem State.leaveFrame_bits : (s.leaveFrame).bits = s.bits := rfl
@[simp] theorem State.leaveFrame_code : (s.leaveFrame).code = s.code := rfl
@[simp] theorem State.leaveFrame_status : (s.leaveFrame).status = s.status := rfl
@[simp] theorem State.leaveFrame_temperatureX10 : (s.leaveFrame).temperatureX10 = s.temperatureX10 := rfl
@[simp] theorem State.leaveFrame_humidityX10 : (s.leaveFrame).humidityX10 = s.humidityX10 := rfl
@[simp] theorem State.leaveFrame_newData : (s.leaveFrame).newData = s.newData := rfl
@[simp] theorem State.leaveFrame_modelPort : (s.leaveFrame).modelPort = s.modelPort := rfl
@[simp] theorem State.leaveFrame_params : (s.leaveFrame).params = s.params := rfl
@[simp] theorem State.leaveFrame_events : (s.leaveFrame).events = s.events := rfl

/-! ### recordGood -/

@[simp] theorem State.recordGood_lastTick (t10 h10 : Int) : (s.recordGood t10 h10).lastTick = s.lastTick := rfl
@[simp] theorem State.recordGood_inFrame (t10 h10 : Int) : (s.recordGood t10 h10).inFrame = s.inFrame := rfl
@[simp] theorem State.recordGood_bits (t10 h10 : Int) : (s.recordGood t10 h10).bits = s.bits := rfl
@[simp] theorem State.recordGood_code (t10 h10 : Int) : (s.recordGood t10 h10).code = s.code := rfl
@[simp] theorem State.recordGood_status (t10 h10 : Int) : (s.recordGood t10 h10).status = .good := rfl
@[simp] theorem State.recordGood_temperatureX10 (t10 h10 : Int) : (s.recordGood t10 h10).temperatureX10 = BitVec.ofInt 16 t10 := rfl
@[simp] theorem State.recordGood_humidityX10 (t10 h10 : Int) : (s.recordGood t10 h10).humidityX10 = BitVec.ofInt 16 h10 := rfl
@[simp] theorem State.recordGood_newData (t10 h10 : Int) : (s.recordGood t10 h10).newData = true := rfl
@[simp] theorem State.recordGood_modelPort (t10 h10 : Int) : (s.recordGood t10 h10).modelPort = s.modelPort := rfl
@[simp] theorem State.recordGood_params (t10 h10 : Int) : (s.recordGood t10 h10).params = s.params := rfl
@[simp] theorem State.recordGood_events (t10 h10 : Int) : (s.recordGood t10 h10).events = s.events := rfl

/-! ### recordFailure -/

@[simp] theorem State.recordFailure_lastTick (st : Status) : (s.recordFailure st).lastTick = s.lastTick := rfl
@[simp] theorem State.recordFailure_inFrame (st : Status) : (s.recordFailure st).inFrame = s.inFrame := rfl
@[simp] theorem State.recordFailure_bits (st : Status) : (s.recordFailure st).bits = s.bits := rfl
@[simp] theorem State.recordFailure_code (st : Status) : (s.recordFailure st).code = s.code := rfl
@[simp] theorem State.recordFailure_status (st : Status) : (s.recordFailure st).status = st := rfl
@[simp] theorem State.recordFailure_temperatureX10 (st : Status) : (s.recordFailure st).temperatureX10 = s.temperatureX10 := rfl
@[simp] theorem State.recordFailure_humidityX10 (st : Status) : (s.recordFailure st).humidityX10 = s.humidityX10 := rfl
@[simp] theorem State.recordFailure_newData (st : Status) : (s.recordFailure st).newData = (s.newData || s.params.flagOnInvalid) := rfl
@[simp] theorem State.recordFailure_modelPort (st : Status) : (s.recordFailure st).modelPort = s.modelPort := rfl
@[simp] theorem State.recordFailure_params (st : Status) : (s.recordFailure st).params = s.params := rfl
@[simp] theorem State.recordFailure_events (st : Status) : (s.recordFailure st).events = s.events := rfl

/-! ### pend -/

@[simp] theorem State.pend_lastTick : (s.pend).lastTick = s.lastTick := rfl
@[simp] theorem State.pend_inFrame : (s.pend).inFrame = s.inFrame := rfl
@[simp] theorem State.pend_bits : (s.pend).bits = s.bits := rfl
@[simp] theorem State.pend_code : (s.pend).code = s.code := rfl
@[simp] theorem State.pend_status : (s.pend).status = .timeout := rfl
@[simp] theorem State.pend_temperatureX10 : (s.pend).temperatureX10 = s.temperatureX10 := rfl
@[simp] theorem State.pend_humidityX10 : (s.pend).humidityX10 = s.humidityX10 := rfl
@[simp] theorem State.pend_newData : (s.pend).newData = false := rfl
@[simp] theorem State.pend_modelPort : (s.pend).modelPort = s.modelPort := rfl
@[simp] theorem State.pend_params : (s.pend).params = s.params := rfl
@[simp] theorem State.pend_events : (s.pend).events = s.events := rfl

/-! ### resetBlock -/

@[simp] theorem State.resetBlock_lastTick : (s.resetBlock).lastTick = s.params.lastTickInit := rfl
@[simp] theorem State.resetBlock_inFrame : (s.resetBlock).inFrame = false := rfl
@[simp] theorem State.resetBlock_bits : (s.resetBlock).bits = 0 := rfl
@[simp] theorem State.resetBlock_code : (s.resetBlock).code = 0 := rfl
@[simp] theorem State.resetBlock_status : (s.resetBlock).status = .timeout := rfl
@[simp] theorem State.resetBlock_temperatureX10 : (s.resetBlock).temperatureX10 = s.params.tempDefaultX10 := rfl
@[simp] theorem State.resetBlock_humidityX10 : (s.resetBlock).humidityX10 = s.params.humDefaultX10 := rfl
@[simp] theorem State.resetBlock_newData : (s.resetBlock).newData = false := rfl
@[simp] theorem State.resetBlock_modelPort : (s.resetBlock).modelPort = s.modelPort := rfl
@[simp] theorem State.resetBlock_params : (s.resetBlock).params = s.params := rfl
@[simp] theorem State.resetBlock_events : (s.resetBlock).events = s.events := rfl

/-! ### pushWord -/

@[simp] theorem State.pushWord_lastTick (w : EventWord) : (s.pushWord w).lastTick = s.lastTick := rfl
@[simp] theorem State.pushWord_inFrame (w : EventWord) : (s.pushWord w).inFrame = s.inFrame := rfl
@[simp] theorem State.pushWord_bits (w : EventWord) : (s.pushWord w).bits = s.bits := rfl
@[simp] theorem State.pushWord_code (w : EventWord) : (s.pushWord w).code = s.code := rfl
@[simp] theorem State.pushWord_status (w : EventWord) : (s.pushWord w).status = s.status := rfl
@[simp] theorem State.pushWord_temperatureX10 (w : EventWord) : (s.pushWord w).temperatureX10 = s.temperatureX10 := rfl
@[simp] theorem State.pushWord_humidityX10 (w : EventWord) : (s.pushWord w).humidityX10 = s.humidityX10 := rfl
@[simp] theorem State.pushWord_newData (w : EventWord) : (s.pushWord w).newData = s.newData := rfl
@[simp] theorem State.pushWord_modelPort (w : EventWord) : (s.pushWord w).modelPort = s.modelPort := rfl
@[simp] theorem State.pushWord_params (w : EventWord) : (s.pushWord w).params = s.params := rfl
@[simp] theorem State.pushWord_events (w : EventWord) : (s.pushWord w).events = w :: s.events := rfl

/-! ### cancel -/

@[simp] theorem cancel_lastTick : (cancel s).lastTick = s.lastTick := rfl
@[simp] theorem cancel_inFrame : (cancel s).inFrame = s.inFrame := rfl
@[simp] theorem cancel_bits : (cancel s).bits = s.bits := rfl
@[simp] theorem cancel_code : (cancel s).code = s.code := rfl
@[simp] theorem cancel_status : (cancel s).status = s.status := rfl
@[simp] theorem cancel_temperatureX10 : (cancel s).temperatureX10 = s.temperatureX10 := rfl
@[simp] theorem cancel_humidityX10 : (cancel s).humidityX10 = s.humidityX10 := rfl
@[simp] theorem cancel_newData : (cancel s).newData = s.newData := rfl
@[simp] theorem cancel_modelPort : (cancel s).modelPort = s.modelPort := rfl
@[simp] theorem cancel_params : (cancel s).params = s.params := rfl
@[simp] theorem cancel_events : (cancel s).events = s.events.filter fun w => !isEdgeWord w := rfl

/-! ### fetch -/

@[simp] theorem State.fetch_word_nil (h : s.events = []) : s.fetch.1 = 0 := by
  simp [State.fetch, nextWord, h]

@[simp] theorem State.fetch_word_cons (w : EventWord) (rest : List EventWord) (h : s.events = w :: rest) :
    s.fetch.1 = w := by
  simp [State.fetch, nextWord, h]

@[simp] theorem State.fetch_events : s.fetch.2.events = s.events.tail := by
  cases h : s.events <;> simp [State.fetch, nextWord, h]

@[simp] theorem State.fetch_lastTick : s.fetch.2.lastTick = s.lastTick := rfl
@[simp] theorem State.fetch_inFrame : s.fetch.2.inFrame = s.inFrame := rfl
@[simp] theorem State.fetch_bits : s.fetch.2.bits = s.bits := rfl
@[simp] theorem State.fetch_code : s.fetch.2.code = s.code := rfl
@[simp] theorem State.fetch_status : s.fetch.2.status = s.status := rfl
@[simp] theorem State.fetch_temperatureX10 : s.fetch.2.temperatureX10 = s.temperatureX10 := rfl
@[simp] theorem State.fetch_humidityX10 : s.fetch.2.humidityX10 = s.humidityX10 := rfl
@[simp] theorem State.fetch_newData : s.fetch.2.newData = s.newData := rfl
@[simp] theorem State.fetch_modelPort : s.fetch.2.modelPort = s.modelPort := rfl
@[simp] theorem State.fetch_params : s.fetch.2.params = s.params := rfl

/-- Nothing listed: the state is as before. -/
theorem State.fetch_state_nil (h : s.events = []) : s.fetch.2 = s := by
  cases s
  simp_all [State.fetch, nextWord]

/-- A pushed word is the next one, and taking it gives the state back. -/
@[simp] theorem State.fetch_pushWord (w : EventWord) : (s.pushWord w).fetch = (w, s) := rfl

/-! ### what reads the state -/

@[simp] theorem State.edgeContext_lastTick : s.edgeContext.lastTick = s.lastTick := rfl
@[simp] theorem State.edgeContext_inFrame : s.edgeContext.inFrame = s.inFrame := rfl
@[simp] theorem State.edgeContext_bits : s.edgeContext.bits = s.bits := rfl
@[simp] theorem State.fetch_edgeContext : s.fetch.2.edgeContext = s.edgeContext := rfl
@[simp] theorem State.fetch_sensorModel : s.fetch.2.sensorModel = s.sensorModel := rfl

/-- A state that no event word is pending for reads the same with any words to come. -/
@[simp] theorem State.sensorModel_withEvents (ws : List EventWord) : ({ s with events := ws } : State).sensorModel = s.sensorModel := rfl
@[simp] theorem State.edgeContext_withEvents (ws : List EventWord) : ({ s with events := ws } : State).edgeContext = s.edgeContext := rfl

/-! ### reset -/


section
variable (p : Params) (m : Code2)

@[simp] theorem State.resetWith_lastTick : (State.resetWith p m).lastTick = p.lastTickInit := rfl
@[simp] theorem State.resetWith_inFrame : (State.resetWith p m).inFrame = false := rfl
@[simp] theorem State.resetWith_bits : (State.resetWith p m).bits = 0 := rfl
@[simp] theorem State.resetWith_code : (State.resetWith p m).code = 0 := rfl
@[simp] theorem State.resetWith_status : (State.resetWith p m).status = .timeout := rfl
@[simp] theorem State.resetWith_temperatureX10 : (State.resetWith p m).temperatureX10 = p.tempDefaultX10 := rfl
@[simp] theorem State.resetWith_humidityX10 : (State.resetWith p m).humidityX10 = p.humDefaultX10 := rfl
@[simp] theorem State.resetWith_newData : (State.resetWith p m).newData = false := rfl
@[simp] theorem State.resetWith_modelPort : (State.resetWith p m).modelPort = m := rfl
@[simp] theorem State.resetWith_params : (State.resetWith p m).params = p := rfl
@[simp] theorem State.resetWith_events : (State.resetWith p m).events = [] := rfl

end

end Sys2Proof.Machine
end

