-- ==== Sys2Proof/Laws/Machine.lean ====
section
/-! SUPPORT. One lemma per shared operation that says everything it can do; proofs cite these and do not unfold the
operations again. -/

namespace Sys2Proof.Machine

/-- The three outcomes of VALIDATE (R82, R87, R88). -/
theorem validate_cases (m : SensorModel) (f : Frame) (s : State) :
    let b := frameBytes s.params.b0AtMsb f
    let c := decodePayload m b.b1 b.b2 b.b3 b.b4
    (checksum b.b1 b.b2 b.b3 b.b4 ≠ b.b0.toNat ∧ validate m f s = s.recordFailure .badChecksum) ∨
    (checksum b.b1 b.b2 b.b3 b.b4 = b.b0.toNat ∧ c.valid = false ∧ validate m f s = s.recordFailure .badData) ∨
    (checksum b.b1 b.b2 b.b3 b.b4 = b.b0.toNat ∧ c.valid = true ∧ validate m f s = s.recordGood c.t10 c.h10) := by
  simp only [validate]
  split
  · left; simp_all
  · right; split <;> simp_all

/-- A checksum mismatch (R82). -/
theorem validate_mismatch (m : SensorModel) (f : Frame) (s : State)
    (h : checksum (frameBytes s.params.b0AtMsb f).b1 (frameBytes s.params.b0AtMsb f).b2
      (frameBytes s.params.b0AtMsb f).b3 (frameBytes s.params.b0AtMsb f).b4 ≠ (frameBytes s.params.b0AtMsb f).b0.toNat) :
    validate m f s = s.recordFailure .badChecksum := by
  simp only [validate, if_pos h]

/-- A matching checksum: Good or BadData by the range checks of the model's layouts (R87, R88). -/
theorem validate_match (m : SensorModel) (f : Frame) (s : State) (b : FrameBytes)
    (hb : b = frameBytes s.params.b0AtMsb f) (h : checksum b.b1 b.b2 b.b3 b.b4 = b.b0.toNat) :
    validate m f s
      = if (decodePayload m b.b1 b.b2 b.b3 b.b4).valid
        then s.recordGood (decodePayload m b.b1 b.b2 b.b3 b.b4).t10 (decodePayload m b.b1 b.b2 b.b3 b.b4).h10
        else s.recordFailure .badData := by
  subst hb
  simp only [validate, h, ne_eq, not_true, if_false]

/-- An update that VALIDATE neither reads nor writes commutes with it. -/
theorem validate_comm (g : State → State) (hp : ∀ s, (g s).params = s.params)
    (hg : ∀ s t h, (g s).recordGood t h = g (s.recordGood t h))
    (hf : ∀ s st, (g s).recordFailure st = g (s.recordFailure st)) (m : SensorModel) (f : Frame) (s : State) :
    validate m f (g s) = g (validate m f s) := by
  simp only [validate, hp]
  split
  · exact hf s _
  · split
    · exact hg s _ _
    · exact hf s _

theorem validate_leaveFrame (m : SensorModel) (f : Frame) (s : State) :
    validate m f s.leaveFrame = (validate m f s).leaveFrame :=
  validate_comm State.leaveFrame (fun _ => rfl) (fun _ _ _ => rfl) (fun _ _ => rfl) m f s

theorem validate_withEvents (m : SensorModel) (f : Frame) (ws : List EventWord) (s : State) :
    validate m f { s with events := ws } = { validate m f s with events := ws } :=
  validate_comm (fun s => { s with events := ws }) (fun _ => rfl) (fun _ _ _ => rfl) (fun _ _ => rfl) m f s

/-- VALIDATE writes only the result group (R89). -/
theorem validate_writes (m : SensorModel) (f : Frame) (s : State) :
    validate m f s = { s with
      status := (validate m f s).status
      temperatureX10 := (validate m f s).temperatureX10
      humidityX10 := (validate m f s).humidityX10
      newData := (validate m f s).newData } := by
  rcases validate_cases m f s with ⟨-, h⟩ | ⟨-, -, h⟩ | ⟨-, -, h⟩ <;> rw [h] <;> rfl

section
variable (m : SensorModel) (f : Frame) (s : State)

@[simp] theorem validate_lastTick : (validate m f s).lastTick = s.lastTick := by rw [validate_writes]
@[simp] theorem validate_inFrame : (validate m f s).inFrame = s.inFrame := by rw [validate_writes]
@[simp] theorem validate_bits : (validate m f s).bits = s.bits := by rw [validate_writes]
@[simp] theorem validate_code : (validate m f s).code = s.code := by rw [validate_writes]
@[simp] theorem validate_modelPort : (validate m f s).modelPort = s.modelPort := by rw [validate_writes]
@[simp] theorem validate_params : (validate m f s).params = s.params := by rw [validate_writes]
@[simp] theorem validate_events : (validate m f s).events = s.events := by rw [validate_writes]

end

/-- Completion goes on exactly when a model is configured (R69, R85). -/
theorem completeFrame_some (s : State) (m : SensorModel) (h : s.sensorModel = some m) :
    completeFrame s = .next (validate m s.code s).leaveFrame := by
  simp [completeFrame, h]

theorem completeFrame_none (s : State) (h : s.sensorModel = none) : completeFrame s = .refused .reservedModel := by
  simp [completeFrame, h]

/-- The state after the count and the shift of a data edge. -/
def afterData (bit : Bool) (tick : Tick) (s : State) : State := ((s.noteTick tick).countEdge).shiftIn bit

/-- Everything a data edge does. -/
theorem dataEdge_cases (bit : Bool) (tick : Tick) (s : State) :
    (s.bits + 1 ≠ frameBitCount ∧ dataEdge bit tick s = .next (afterData bit tick s)) ∨
    (s.bits + 1 = frameBitCount ∧ s.sensorModel = none ∧ dataEdge bit tick s = .refused .reservedModel) ∨
    (∃ m, s.bits + 1 = frameBitCount ∧ s.sensorModel = some m ∧
      dataEdge bit tick s
        = .next (validate m (afterData bit tick s).code (afterData bit tick s)).leaveFrame) := by
  by_cases hb : s.bits + 1 = frameBitCount
  · have hc : (afterData bit tick s).frameComplete = true := by
      simpa [afterData, State.frameComplete] using hb
    have he : dataEdge bit tick s = completeFrame (afterData bit tick s) := by
      simp only [dataEdge, afterData] at *
      simp [hc]
    have hm : (afterData bit tick s).sensorModel = s.sensorModel := rfl
    cases h : s.sensorModel with
    | none => exact .inr (.inl ⟨hb, rfl, by rw [he, completeFrame_none _ (hm.trans h)]⟩)
    | some m => exact .inr (.inr ⟨m, hb, rfl, by rw [he, completeFrame_some _ m (hm.trans h)]⟩)
  · have hc : (afterData bit tick s).frameComplete = false := by
      simpa [afterData, State.frameComplete] using hb
    refine .inl ⟨hb, ?_⟩
    simp only [dataEdge, afterData] at *
    simp [hc]

/-- A configured state has a sensor model. -/
theorem State.sensorModel_of_configured (s : State) (h : s.configured) : ∃ m, s.sensorModel = some m := by
  cases hm : s.sensorModel with
  | some m => exact ⟨m, rfl⟩
  | none => exact absurd ((SensorModel.ofCode_eq_none s.modelPort).1 hm) h

theorem State.configured_of_sensorModel (s : State) (m : SensorModel) (h : s.sensorModel = some m) : s.configured := by
  intro h3
  have := (SensorModel.ofCode_eq_none s.modelPort).2 h3
  simp_all [State.sensorModel]

/-- A word presented to a configured block runs the decoded instruction. -/
theorem present_of_configured (w : EventWord) (s : State) (h : s.configured) :
    present w s = exec (decode s.edgeContext (.event w)) s := by
  obtain ⟨m, hm⟩ := s.sensorModel_of_configured h
  simp [present, hm]

theorem present_of_reservedModel (w : EventWord) (s : State) (h : s.modelPort = 3#2) :
    present w s = .refused .reservedModel := by
  simp [present, State.sensorModel, (SensorModel.ofCode_eq_none s.modelPort).2 h]

/-- An edge presented to a configured block runs the instruction of its class. -/
theorem present_edge (level : BitVec 1) (tick : Tick) (s : State) (h : s.configured) :
    present (encodeEvent (.edge level tick)) s
      = exec (edgeInstr (classify (s.interval tick) s.inFrame s.bits) level tick) s := by
  rw [present_of_configured _ s h, decode_edge]
  rfl

/-- Every word is the word of the event it decodes to. -/
theorem present_event (w : EventWord) (s : State) (h : s.configured) :
    present w s = exec (instrOfEvent s.edgeContext (decodeEvent w)) s :=
  present_of_configured w s h

/-- What one word can do, said once: if the block goes on, the configuration is legal and one of these cases holds. -/
theorem present_next_cases (w : EventWord) (s t : State) (h : present w s = .next t) :
    s.configured ∧
      ((∃ x, decodeEvent w = .reset x ∧ t = s.resetBlock) ∨
       (∃ x, decodeEvent w = .arm x ∧ t = s.pend) ∨
       (∃ x, decodeEvent w = .nop x ∧ t = s) ∨
       (∃ level tick, decodeEvent w = .edge level tick ∧
         ((classify (s.interval tick) s.inFrame s.bits = .sync ∧ t = (s.noteTick tick).openFrame) ∨
          (classify (s.interval tick) s.inFrame s.bits = .ignore ∧ t = s.noteTick tick) ∨
          (classify (s.interval tick) s.inFrame s.bits = .skip ∧ t = (s.noteTick tick).countEdge) ∨
          (classify (s.interval tick) s.inFrame s.bits = .viol ∧ t = (afterData false tick s).leaveFrame) ∨
          (∃ bit, classify (s.interval tick) s.inFrame s.bits = (if bit then .bit1 else .bit0) ∧
            ((s.bits + 1 ≠ frameBitCount ∧ t = afterData bit tick s) ∨
             (∃ m, s.bits + 1 = frameBitCount ∧ s.sensorModel = some m ∧
               t = (validate m (afterData bit tick s).code (afterData bit tick s)).leaveFrame)))))) := by
  have hcfg : s.configured := by
    intro h3
    rw [present_of_reservedModel w s h3] at h
    cases h
  refine ⟨hcfg, ?_⟩
  rw [present_event w s hcfg] at h
  cases hd : decodeEvent w with
  | reset x => rw [hd] at h; cases h; exact .inl ⟨x, rfl, rfl⟩
  | arm x => rw [hd] at h; cases h; exact .inr (.inl ⟨x, rfl, rfl⟩)
  | nop x => rw [hd] at h; cases h; exact .inr (.inr (.inl ⟨x, rfl, rfl⟩))
  | reserved x => rw [hd] at h; cases h
  | edge level tick =>
    refine .inr (.inr (.inr ⟨level, tick, rfl, ?_⟩))
    rw [hd] at h
    change exec (edgeInstr (classify (s.interval tick) s.inFrame s.bits) level tick) s = .next t at h
    have data : ∀ bit, dataEdge bit tick s = .next t →
        (s.bits + 1 ≠ frameBitCount ∧ t = afterData bit tick s) ∨
          (∃ m, s.bits + 1 = frameBitCount ∧ s.sensorModel = some m ∧
            t = (validate m (afterData bit tick s).code (afterData bit tick s)).leaveFrame) := by
      intro bit hb
      rcases dataEdge_cases bit tick s with ⟨hn, he⟩ | ⟨-, -, he⟩ | ⟨m, hn, hm, he⟩ <;> rw [he] at hb <;> cases hb
      · exact .inl ⟨hn, rfl⟩
      · exact .inr ⟨m, hn, hm, rfl⟩
    cases hc : classify (s.interval tick) s.inFrame s.bits with
    | sync => rw [hc] at h; cases h; exact .inl ⟨rfl, rfl⟩
    | ignore => rw [hc] at h; cases h; exact .inr (.inl ⟨rfl, rfl⟩)
    | skip => rw [hc] at h; cases h; exact .inr (.inr (.inl ⟨rfl, rfl⟩))
    | viol => rw [hc] at h; cases h; exact .inr (.inr (.inr (.inl ⟨rfl, rfl⟩)))
    | bit0 => rw [hc] at h; exact .inr (.inr (.inr (.inr ⟨false, by simp, data false h⟩)))
    | bit1 => rw [hc] at h; exact .inr (.inr (.inr (.inr ⟨true, by simp, data true h⟩)))

/-- A step is one presented word. -/
theorem step_cons (s : State) (w : EventWord) (rest : List EventWord) (h : s.events = w :: rest) :
    step s = present w { s with events := rest } := by
  simp [step, State.fetch, nextWord, h]

theorem runWords_cons_next (w : EventWord) (ws : List EventWord) (s t : State) (h : present w s = .next t) :
    runWords (w :: ws) s = runWords ws t := by
  simp only [runWords, h]

/-- The read context's ARM in a configured state. -/
theorem readContextStep_configured (s : State) (h : s.configured) : readContextStep s = .next s.pend := by
  rw [readContextStep, present_event _ s h, decodeEvent_encodeEvent]
  rfl

/-- A sequence of gaps is a sequence of edges. -/
theorem gaps_edges (t : Tick) (ns : List Tick) : ∀ w ∈ gaps t ns, ∃ tick, w = encodeEvent (.edge 1 tick) := by
  induction ns generalizing t with
  | nil => intro w hw; cases hw
  | cons n ns ih =>
    intro w hw
    rcases List.mem_cons.1 hw with rfl | hw
    · exact ⟨t + n, rfl⟩
    · exact ih (t + n) w hw

theorem isArmWord_edge (level : BitVec 1) (tick : Tick) : isArmWord (encodeEvent (.edge level tick)) = false := by
  simp only [isArmWord, decodeEvent_encodeEvent]

/-- The launch premise of a read whose only poll sees gaps: the decoder is Idle. -/
theorem launchPremise_gaps (t : Tick) (ns : List Tick) (s : State) (h : s.inFrame = false) : launchPremise [gaps t ns] s := by
  refine ⟨h, fun w hw => ?_⟩
  rw [List.flatten_cons, List.flatten_nil, List.append_nil] at hw
  obtain ⟨tick, rfl⟩ := gaps_edges t ns w hw
  exact isArmWord_edge 1 tick

theorem runWords_append (xs ys : List EventWord) (s t : State) (h : runWords xs s = .next t) :
    runWords (xs ++ ys) s = runWords ys t := by
  induction xs generalizing s with
  | nil => cases h; rfl
  | cons w xs ih =>
    simp only [runWords, List.cons_append] at *
    split at h
    · exact ih _ h
    · cases h
    · cases h

end Sys2Proof.Machine
end

