-- ==== Sys2Proof/Laws/PerInstr.lean ====
section
/-! SUPPORT. Statements made of every instruction as syntax, one lemma per constructor. -/

namespace Sys2Proof.Laws.RoundTrip

/-- In every context in which the instruction is well formed, the decoder reads it back from its word. -/
def Statement (i : Instr) : Prop :=
  ∀ ctx : EdgeContext, i.wellFormed ctx = true → decode ctx (encode i) = i

theorem reset (ignored : BitVec 35) : Statement (.reset ignored) := fun _ _ => by
  simp [encode, decode, decodeEvent_encodeEvent, instrOfEvent]

theorem arm (ignored : BitVec 33) : Statement (.arm ignored) := fun _ _ => by
  simp [encode, decode, decodeEvent_encodeEvent, instrOfEvent]

theorem nop (ignored : BitVec 33) : Statement (.nop ignored) := fun _ _ => by
  simp [encode, decode, decodeEvent_encodeEvent, instrOfEvent]

theorem edgeSync (level : BitVec 1) (tick : Tick) : Statement (.edgeSync level tick) :=
  fun ctx h => decode_edge_of_fits .sync ctx level tick h

theorem edgeIgnore (level : BitVec 1) (tick : Tick) : Statement (.edgeIgnore level tick) :=
  fun ctx h => decode_edge_of_fits .ignore ctx level tick h

theorem edgeSkip (level : BitVec 1) (tick : Tick) : Statement (.edgeSkip level tick) :=
  fun ctx h => decode_edge_of_fits .skip ctx level tick h

theorem edgeBit0 (level : BitVec 1) (tick : Tick) : Statement (.edgeBit0 level tick) :=
  fun ctx h => decode_edge_of_fits .bit0 ctx level tick h

theorem edgeBit1 (level : BitVec 1) (tick : Tick) : Statement (.edgeBit1 level tick) :=
  fun ctx h => decode_edge_of_fits .bit1 ctx level tick h

theorem edgeViol (level : BitVec 1) (tick : Tick) : Statement (.edgeViol level tick) :=
  fun ctx h => decode_edge_of_fits .viol ctx level tick h

theorem reservedArmEdge (ignored : BitVec 33) : Statement (.reservedArmEdge ignored) := fun _ _ => by
  simp [encode, decode, decodeEvent_encodeEvent, instrOfEvent]

theorem validateDht11 (frame : Frame) : Statement (.validateDht11 frame) := fun _ _ => rfl

theorem validateDhtxx (frame : Frame) : Statement (.validateDhtxx frame) := fun _ _ => rfl

theorem validateAuto (frame : Frame) : Statement (.validateAuto frame) := fun _ _ => rfl

end Sys2Proof.Laws.RoundTrip
end

