-- ==== Sys2Proof/Tests/Slice0.lean ====
section
/-! SUPPORT. Tests of the model, each one step on a small state, with the expected result taken from spec/95_test_vectors.md (the row is
named in the comment) or written out from the rule named; and for every obligation with hypotheses a witness that meets them. -/

namespace Sys2Proof.Tests

open Sys2Proof Sys2Proof.Machine

/-! ## Helpers -/

/-- The outcome is this next state. -/
def isNext (o : Host.Outcome State Fault Refusal) (t : State) : Bool :=
  match o with
  | .next s => decide (s = t)
  | .fault _ => false
  | .refused _ => false

/-- The outcome is this refusal. -/
def isRefused (o : Host.Outcome State Fault Refusal) (r : Refusal) : Bool :=
  match o with
  | .next _ => false
  | .fault _ => false
  | .refused q => decide (q = r)

/-- The result group "(3, 0, 0, 0)" of the vectors. -/
def pending : ResultGroup := ⟨.timeout, 0, 0, false⟩

/-- A state as the vectors write it, under model DHT11 and the default parameters. -/
def st (lastTick : Tick) (inFrame : Bool) (bits : Int) (code : Frame) (r : ResultGroup) : State where
  lastTick := lastTick
  inFrame := inFrame
  bits := BitVec.ofInt 7 bits
  code := code
  status := r.status
  temperatureX10 := r.temperatureX10
  humidityX10 := r.humidityX10
  newData := r.newData
  modelPort := 1
  params := Params.default
  events := []

/-- An edge word with level High. -/
def edge (tick : Tick) : EventWord := encodeEvent (.edge 1 tick)

/-- The state before vector E14: 39 data bits in, the 40th edge completes the source's frame. -/
def beforeLast : State := st 23688 true 39 0x2A800C801E pending

/-- The state after vector E14. -/
def afterGood : State := st 23764 false 40 0x550019003C ⟨.good, 250, 600, true⟩

/-! ## Decoding: a word per constructor, from the tables of 30_encoding.md -/

/-- 1 then 35 bits: R44, first row; junk in the ignored bits (vector K8). -/
theorem test_decode_reset :
    decode ⟨0, true, 5⟩ (.event 0b111111111111111111111111111111111111#36) = .reset 0x7FFFFFFFF#35 := by decide

/-- R57: ARM is 0x400000000. -/
theorem test_decode_arm : decode ⟨0, true, 5⟩ (.event 0b010000000000000000000000000000000000#36) = .arm 0 := by decide

/-- Vector K6: NOP with junk. -/
theorem test_decode_nop :
    decode ⟨0, true, 5⟩ (.event 0b000111111111111111111111111111111111#36) = .nop 0x1FFFFFFFF#33 := by decide

/-- R44, last row (vector K9). -/
theorem test_decode_reserved :
    decode ⟨0, true, 5⟩ (.event 0b011000000000000000000000000000000000#36) = .reservedArmEdge 0 := by decide

/-- Vector E8, level 1, tick 30000: a sync in a frame. -/
theorem test_decode_sync : decode ⟨14032, true, 12⟩ (.event 0x300007530#36) = .edgeSync 1 30000 := by decide

/-- Vector E16: a surplus edge after a frame. -/
theorem test_decode_ignore : decode ⟨23764, false, 40⟩ (.event 0x300005D20#36) = .edgeIgnore 1 23840 := by decide

/-- Vector E4: the second discard edge; and E17: an interval of 10000 is no sync. -/
theorem test_decode_skip :
    decode ⟨20110, true, BitVec.ofInt 7 (-1)⟩ (.event 0x300004F10#36) = .edgeSkip 1 20240 ∧
    decode ⟨100, true, BitVec.ofInt 7 (-2)⟩ (.event 0x300002774#36) = .edgeSkip 1 10100 := by decide

/-- Vector E10: interval 100. -/
theorem test_decode_bit0 : decode ⟨1000, true, 7⟩ (.event 0x30000044C#36) = .edgeBit0 1 1100 := by decide

/-- Vector E12: interval 101, level Low. -/
theorem test_decode_bit1 : decode ⟨1000, true, 7⟩ (.event 0x20000044D#36) = .edgeBit1 0 1101 := by decide

/-- Vectors E9 (interval 0) and E15 (interval 151 on the 40th data edge). -/
theorem test_decode_viol :
    decode ⟨1000, true, 7⟩ (.event 0x3000003E8#36) = .edgeViol 1 1000 ∧
    decode ⟨14229, true, 39⟩ (.event 0x30000382C#36) = .edgeViol 1 14380 := by decide

/-- R59, R85: the model selects the row. -/
theorem test_decode_validate :
    decode ⟨0, false, 0⟩ (.frame .dht11 0x550019003C#40) = .validateDht11 0x550019003C#40 ∧
    decode ⟨0, false, 0⟩ (.frame .dhtxx 0x7A69809001#40) = .validateDhtxx 0x7A69809001#40 ∧
    decode ⟨0, false, 0⟩ (.frame .auto 0x6105015A01#40) = .validateAuto 0x6105015A01#40 := by decide

/-- R57: the words of RESET, ARM, NOP, `EDGE 20000` and `EDGE 1101 LOW`. -/
theorem test_encode_words :
    encodeEvent (.reset 0) = 0x800000000#36 ∧ encodeEvent (.arm 0) = 0x400000000#36 ∧
    encodeEvent (.nop 0) = 0x000000000#36 ∧ encodeEvent (.edge 1 20000) = 0x300004E20#36 ∧
    encodeEvent (.edge 0 1101) = 0x20000044D#36 := by decide

/-- What is no word of the table is rejected by name: 41 bits; a frame under model code 3 (R53). -/
theorem test_decode_rejects :
    (match decodeRaw EdgeContext.reset 0 (2 ^ 40) with
      | .error e => decide (e = .wordTooWide)
      | .ok _ => false) = true ∧
    (match decodeRaw EdgeContext.reset 3 (2 ^ 36) with
      | .error e => decide (e = .reservedModel)
      | .ok _ => false) = true := by decide

/-- Table 2.2 of the vectors, row by row. -/
theorem test_classify_table :
    classify 0 false 0 = .ignore ∧ classify 10000 false 40 = .ignore ∧ classify 10001 false 0 = .sync ∧
    classify 0 true (BitVec.ofInt 7 (-2)) = .skip ∧ classify 160 true (BitVec.ofInt 7 (-1)) = .skip ∧
    classify 10000 true (BitVec.ofInt 7 (-1)) = .skip ∧ classify 10001 true (BitVec.ofInt 7 (-2)) = .sync ∧
    classify 59 true 0 = .viol ∧ classify 60 true 0 = .bit0 ∧ classify 100 true 5 = .bit0 ∧
    classify 101 true 5 = .bit1 ∧ classify 150 true 39 = .bit1 ∧ classify 151 true 39 = .viol ∧
    classify 10000 true 20 = .viol ∧ classify 10001 true 20 = .sync ∧ classify 4294967295 true 20 = .sync := by decide

/-- Table 2.1 of the vectors. -/
theorem test_wrapDiff_table :
    wrapDiff 4294967290 5 = 11 ∧ wrapDiff 100 100 = 0 ∧ wrapDiff 5 4 = 4294967295 ∧ wrapDiff 0 10001 = 10001 ∧
    wrapDiff 4294967295 0 = 1 ∧ wrapDiff 4294950000 12704 = 30000 ∧ wrapDiff 2147483648 0 = 2147483648 := by decide

/-! ## WellFormed: one ill-formed term per check, refused -/

/-- Interval 10000 is not over the sync threshold. -/
theorem test_illFormed_sync : (Instr.edgeSync 1 10000).wellFormed ⟨0, false, 0⟩ = false := by decide

/-- An IGNORE inside a frame. -/
theorem test_illFormed_ignore : (Instr.edgeIgnore 1 80).wellFormed ⟨0, true, 0⟩ = false := by decide

/-- A SKIP past the two discard edges. -/
theorem test_illFormed_skip : (Instr.edgeSkip 1 80).wellFormed ⟨0, true, 0⟩ = false := by decide

/-- Interval 101 is no 0. -/
theorem test_illFormed_bit0 : (Instr.edgeBit0 1 101).wellFormed ⟨0, true, 0⟩ = false := by decide

/-- Interval 100 is no 1. -/
theorem test_illFormed_bit1 : (Instr.edgeBit1 1 100).wellFormed ⟨0, true, 0⟩ = false := by decide

/-- Interval 150 is in the window. -/
theorem test_illFormed_viol : (Instr.edgeViol 1 150).wellFormed ⟨0, true, 0⟩ = false := by decide

/-- And each has a well-formed term. -/
theorem test_wellFormed :
    (Instr.edgeSync 1 10001).wellFormed ⟨0, false, 0⟩ = true ∧ (Instr.edgeIgnore 1 80).wellFormed ⟨0, false, 0⟩ = true ∧
    (Instr.edgeSkip 1 80).wellFormed ⟨0, true, BitVec.ofInt 7 (-1)⟩ = true ∧
    (Instr.edgeBit0 1 100).wellFormed ⟨0, true, 0⟩ = true ∧ (Instr.edgeBit1 1 101).wellFormed ⟨0, true, 0⟩ = true ∧
    (Instr.edgeViol 1 151).wellFormed ⟨0, true, 0⟩ = true := by decide

/-! ## The instructions, one step each -/

/-- Vector E1. -/
theorem test_sync_idle : isNext (present 0x300004E20#36 (st 0 false 0 0 pending)) (st 20000 true (-2) 0 pending) = true := by
  decide

/-- Vector E13: a tick that steps back is a sync. -/
theorem test_sync_back : isNext (present 0x300000004#36 (st 5 true 3 5 pending)) (st 4 true (-2) 0 pending) = true := by decide

/-- Vector E16. -/
theorem test_ignore : isNext (present 0x300005D20#36 (st 23764 false 40 0x550019003C pending))
    (st 23840 false 40 0x550019003C pending) = true := by decide

/-- Vector E3. -/
theorem test_skip : isNext (present 0x300004E8E#36 (st 20000 true (-2) 0 pending)) (st 20110 true (-1) 0 pending) = true := by
  decide

/-- Vector E10. -/
theorem test_bit0 : isNext (present 0x30000044C#36 (st 1000 true 7 0x2A pending)) (st 1100 true 8 0x54 pending) = true := by
  decide

/-- Vector E14: the completing edge. -/
theorem test_bit0_completes : isNext (present 0x300005CD4#36 beforeLast) afterGood = true := by decide

/-- Vector E12: level Low makes no difference. -/
theorem test_bit1 : isNext (present 0x20000044D#36 (st 1000 true 7 0x2A pending)) (st 1101 true 8 0x55 pending) = true := by
  decide

/-- Program P2, last row: BIT1 completes 0x7A69809001 under DHTxx (bits 0, tick 28049; interval 150). -/
theorem test_bit1_completes :
    isNext (present 0x300006E27#36 { st 28049 true 39 0x3D34C04800 pending with modelPort := 2 })
      { st 28199 false 40 0x7A69809001 ⟨.good, BitVec.ofInt 16 (-105), 400, true⟩ with modelPort := 2 } = true := by decide

/-- Vector E7. -/
theorem test_viol : isNext (present 0x300003798#36 (st 14032 true 12 0x550 pending)) (st 14232 false 13 0xAA0 pending) = true := by
  decide

/-- Vector E15: a violation on the 40th data edge validates nothing. -/
theorem test_viol_last :
    isNext (present 0x30000382C#36 (st 14229 true 39 0x2A800C801E pending)) (st 14380 false 40 0x550019003C pending) = true := by
  decide

/-- Vector K7, LAST_TICK_INIT = 7. -/
theorem test_reset :
    isNext (present 0x800000000#36 { st 21980 true 20 0x55001 ⟨.badChecksum, 250, 600, true⟩ with
        params := { Params.default with lastTickInit := 7 } })
      { st 7 false 0 0 pending with params := { Params.default with lastTickInit := 7 } } = true := by decide

/-- Vector K1. -/
theorem test_arm : isNext (present 0x400000000#36 afterGood) (st 23764 false 40 0x550019003C ⟨.timeout, 250, 600, false⟩) = true := by
  decide

/-- Vector K4: ARM in the middle of a frame. -/
theorem test_arm_in_frame : isNext (present 0x400000000#36 (st 21980 true 20 0x55001 ⟨.badChecksum, 250, 600, true⟩))
    (st 21980 true 20 0x55001 ⟨.timeout, 250, 600, false⟩) = true := by decide

/-- Vector K6. -/
theorem test_nop : isNext (present 0x1FFFFFFFF#36 afterGood) afterGood = true := by decide

/-- Vector K9: the last of the reserved words. -/
theorem test_reserved : isRefused (present 0x7FFFFFFFF#36 afterGood) .reservedArmEdge = true := by decide

/-- R53, item 1: model code 3. -/
theorem test_reserved_model : isRefused (step { State.reset with modelPort := 3 }) .reservedModel = true := by decide

/-- Vectors V5 (a fraction byte of 10) and V4 (60.1 degrees) under DHT11. -/
theorem test_validate_dht11 :
    isNext (exec (.validateDht11 0x9F0A3B005A#40) (st 0 true 40 0 pending)) (st 0 true 40 0 ⟨.good, 600, 900, true⟩) = true ∧
    isNext (exec (.validateDht11 0x97013C005A#40) (st 0 true 40 0 pending)) (st 0 true 40 0 ⟨.badData, 0, 0, false⟩) = true := by
  decide

/-- Vectors V13 (-50.0) and V14 (-50.1) under DHTxx. -/
theorem test_validate_dhtxx :
    isNext (exec (.validateDhtxx 0x06F4819001#40) (st 0 true 40 0 pending))
      (st 0 true 40 0 ⟨.good, 0xFE0C#16, 0x0190#16, true⟩) = true ∧
    isNext (exec (.validateDhtxx 0x07F5819001#40) (st 0 true 40 0 pending)) (st 0 true 40 0 ⟨.badData, 0, 0, false⟩) = true := by
  decide

/-- Vectors V16 (135.1 degrees falls back to DHT11), V20 (both valid) and V23 (checksum) under Auto. -/
theorem test_validate_auto :
    isNext (exec (.validateAuto 0xDD47059001#40) (st 0 true 40 0 pending)) (st 0 true 40 0 ⟨.good, 121, 154, true⟩) = true ∧
    isNext (exec (.validateAuto 0x6105015A01#40) (st 0 true 40 0 pending)) (st 0 true 40 0 ⟨.good, 261, 346, true⟩) = true ∧
    isNext (exec (.validateAuto 0xFFFFFFFFFF#40) (st 0 true 40 0 pending)) (st 0 true 40 0 ⟨.badChecksum, 0, 0, false⟩) = true := by
  decide

/-- Vectors Q2 and Q4: FLAG_ON_INVALID. -/
theorem test_flagOnInvalid :
    let p : Params := { Params.default with flagOnInvalid := true }
    isNext (exec (.validateDht11 0x560019003C#40) { st 0 true 40 0 pending with params := p })
      { st 0 true 40 0 ⟨.badChecksum, 0, 0, true⟩ with params := p } = true ∧
    isNext (exec (.validateDht11 0xC800640064#40) { st 0 true 40 0 pending with params := p })
      { st 0 true 40 0 ⟨.badData, 0, 0, true⟩ with params := p } = true := by decide

/-- Vectors Q5 and Q6: the other byte numbering. -/
theorem test_b0AtLsb :
    let p : Params := { Params.default with b0AtMsb := false }
    isNext (exec (.validateDht11 0x3C00190055#40) { st 0 true 40 0 pending with params := p })
      { st 0 true 40 0 ⟨.good, 250, 600, true⟩ with params := p } = true ∧
    isNext (exec (.validateDht11 0x550019003C#40) { st 0 true 40 0 pending with params := p })
      { st 0 true 40 0 ⟨.badChecksum, 0, 0, false⟩ with params := p } = true := by decide

/-- Vectors Q8 and Q9: the first edge after reset. -/
theorem test_first_edge :
    isNext (present (edge 5000) (State.resetWith Params.default 1)) (st 5000 false 0 0 pending) = true ∧
    isNext (present (edge 5000) (State.resetWith { Params.default with lastTickInit := 4294960000 } 1))
      { st 5000 true (-2) 0 pending with params := { Params.default with lastTickInit := 4294960000 } } = true := by decide

/-- `SENDFRAME` makes the 43 words of program P1: its first four and its last. -/
theorem test_sendFrame_words :
    (sendFrame 0 0x550019003C#40 20000 110 130 76 120).take 4 = [0x300004E20#36, 0x300004E8E#36, 0x300004F10#36, 0x300004F5C#36] ∧
    (sendFrame 0 0x550019003C#40 20000 110 130 76 120).getLast? = some 0x300005CD4#36 := by decide

/-! ## Witnesses: for each obligation with hypotheses, operands that meet them -/

/-- BoundaryIntervals. -/
theorem witness_BoundaryIntervals :
    0 ≤ (0#7).toInt ∧ 0 ≤ (39#7).toInt ∧ (BitVec.ofInt 7 (-2)).toInt = -2 ∧ (BitVec.ofInt 7 (-1)).toInt = -1 := by decide

/-- WrapDiffRecoversElapsed, last clause, at the least and the greatest step back. -/
theorem witness_WrapDiffRecoversElapsed :
    (0 < 1 ∧ (4#32).toNat + 1 = (5#32).toNat) ∧ (0 < 4294967295 ∧ (0#32).toNat + 4294967295 = (4294967295#32).toNat) := by decide

/-- SyncStartsFrame: the least and the greatest interval. -/
theorem witness_SyncStartsFrame :
    ((st 0 false 0 0 pending).interval 10001).toNat > 10000 ∧ ((st 5 true 3 5 pending).interval 4).toNat > 10000 := by decide

/-- IgnoreNotesTickOnly: the greatest interval. -/
theorem witness_IgnoreNotesTickOnly :
    ((st 0 false 0 0 pending).interval 10000).toNat ≤ 10000 ∧ (st 0 false 0 0 pending).inFrame = false := by decide

/-- SkipCountsOnly: both discard edges, at interval 10000. -/
theorem witness_SkipCountsOnly :
    ((st 0 true (-2) 0 pending).interval 10000).toNat ≤ 10000 ∧ (st 0 true (-2) 0 pending).inFrame = true ∧
    (st 0 true (-2) 0 pending).bits.toInt = -2 ∧ (st 0 true (-1) 0 pending).bits.toInt = -1 := by decide

/-- BitZeroShiftsAndCompletes: both ends of the window, before the 40th data edge and at it. -/
theorem witness_BitZeroShiftsAndCompletes :
    let s := st 0 true 0 0 pending
    (s.inFrame = true ∧ 0 ≤ s.bits.toInt ∧ 60 ≤ (s.interval 60).toNat ∧ (s.interval 60).toNat ≤ 100 ∧
      60 ≤ (s.interval 100).toNat ∧ (s.interval 100).toNat ≤ 100) ∧
    s.bits + 1 ≠ 40#7 ∧ beforeLast.bits + 1 = 40#7 ∧ beforeLast.sensorModel = some .dht11 := by decide

/-- BitOneShiftsAndCompletes: both ends of the window, before the 40th data edge and at it. -/
theorem witness_BitOneShiftsAndCompletes :
    let s := st 0 true 0 0 pending
    (s.inFrame = true ∧ 0 ≤ s.bits.toInt ∧ 101 ≤ (s.interval 101).toNat ∧ (s.interval 101).toNat ≤ 150 ∧
      101 ≤ (s.interval 150).toNat ∧ (s.interval 150).toNat ≤ 150) ∧
    s.bits + 1 ≠ 40#7 ∧ beforeLast.bits + 1 = 40#7 ∧ beforeLast.sensorModel = some .dht11 := by decide

/-- ViolationAbandonsFrame: the four ends of its two ranges. -/
theorem witness_ViolationAbandonsFrame :
    let s := st 0 true 39 0 pending
    s.inFrame = true ∧ 0 ≤ s.bits.toInt ∧ (s.interval 0).toNat < 60 ∧ (s.interval 59).toNat < 60 ∧
    (150 < (s.interval 151).toNat ∧ (s.interval 151).toNat ≤ 10000) ∧
    (150 < (s.interval 10000).toNat ∧ (s.interval 10000).toNat ≤ 10000) := by decide

/-- EdgeStepIsMasterRule: the completing edge. -/
theorem witness_EdgeStepIsMasterRule :
    let s : State := { beforeLast with events := [edge 23764] }
    s.sensorModel = some .dht11 ∧ s.bits.toInt ≤ 40 ∧ s.events = encodeEvent (.edge 1 23764) :: [] := by decide

/-- ShiftLosesNoBit, StepKeepsInvariant: a state of the invariant with 39 bits in. -/
theorem witness_Inv : beforeLast.Inv ∧ beforeLast.inFrame = true := by
  exact ⟨⟨by decide, by decide, by decide, fun h => absurd h (by decide), fun _ h => absurd h (by decide)⟩, by decide⟩

/-- StepKeepsInvariant: and it steps. -/
theorem witness_StepKeepsInvariant : ∃ t, step beforeLast = .next t := ⟨_, rfl⟩

/-- MismatchIsBadChecksum: vector V2. -/
theorem witness_MismatchIsBadChecksum :
    let b := frameBytes true 0x560019003C#40
    (b.b1.toNat + b.b2.toNat + b.b3.toNat + b.b4.toNat) % 256 ≠ b.b0.toNat := by decide

/-- Dht11LayoutOutcome: both cases at a bound, vectors V3 and V4; the lower humidity bound, V6 and V7. -/
theorem witness_Dht11LayoutOutcome :
    let ok (b : FrameBytes) := (b.b1.toNat + b.b2.toNat + b.b3.toNat + b.b4.toNat) % 256 = b.b0.toNat
    let t (b : FrameBytes) := 10 * b.b2.toNat + b.b1.toNat
    let h (b : FrameBytes) := 10 * b.b4.toNat + b.b3.toNat
    (ok (frameBytes true 0x96003C005A#40) ∧ t (frameBytes true 0x96003C005A#40) = 600 ∧ h (frameBytes true 0x96003C005A#40) = 900) ∧
    (ok (frameBytes true 0x97013C005A#40) ∧ t (frameBytes true 0x97013C005A#40) = 601) ∧
    (ok (frameBytes true 0x2200190009#40) ∧ h (frameBytes true 0x2200190009#40) = 90) ∧
    (ok (frameBytes true 0x2A00190908#40) ∧ h (frameBytes true 0x2A00190908#40) = 89) := by decide

/-- DhtxxLayoutOutcome: both cases at a bound, vectors V13, V14, V17, V18. -/
theorem witness_DhtxxLayoutOutcome :
    let ok (b : FrameBytes) := (b.b1.toNat + b.b2.toNat + b.b3.toNat + b.b4.toNat) % 256 = b.b0.toNat
    let mag (b : FrameBytes) : Int := (b.b2.toNat % 128 : Nat) * 256 + b.b1.toNat
    let h (b : FrameBytes) := 256 * b.b4.toNat + b.b3.toNat
    (ok (frameBytes true 0x06F4819001#40) ∧ 128 ≤ (frameBytes true 0x06F4819001#40).b2.toNat ∧
      mag (frameBytes true 0x06F4819001#40) = 500 ∧ h (frameBytes true 0x06F4819001#40) = 400) ∧
    (ok (frameBytes true 0x07F5819001#40) ∧ 128 ≤ (frameBytes true 0x07F5819001#40).b2.toNat ∧
      mag (frameBytes true 0x07F5819001#40) = 501) ∧
    (ok (frameBytes true 0x3AEA004C04#40) ∧ h (frameBytes true 0x3AEA004C04#40) = 1100) ∧
    (ok (frameBytes true 0x3BEA004D04#40) ∧ h (frameBytes true 0x3BEA004D04#40) = 1101) := by decide

/-- AutoTriesDhtxxFirst: both clauses, vectors V15 and V16. -/
theorem witness_AutoTriesDhtxxFirst :
    (let b := frameBytes true 0xDC46059001#40; (layoutDhtxx b.b1 b.b2 b.b3 b.b4).valid = true) ∧
    (let b := frameBytes true 0xDD47059001#40; (layoutDhtxx b.b1 b.b2 b.b3 b.b4).valid = false) := by decide

/-- AutoAmbiguityExamples. -/
theorem witness_AutoAmbiguityExamples : State.reset.params.b0AtMsb = true := by decide

/-- Dht11RoundTrip: both ends of both ranges. -/
theorem witness_Dht11RoundTrip : (0 ≤ 600 ∧ 90 ≤ 90 ∧ 90 ≤ 900) ∧ (600 ≤ 600 ∧ 90 ≤ 900 ∧ 900 ≤ 900) := by decide

/-- DhtxxRoundTrip: both ends of both ranges. -/
theorem witness_DhtxxRoundTrip :
    ((-500 : Int) ≤ -500 ∧ (-500 : Int) ≤ 1350 ∧ 0 ≤ 1100) ∧ ((-500 : Int) ≤ 1350 ∧ (1350 : Int) ≤ 1350 ∧ 1100 ≤ 1100) := by decide

/-- StoredValuesInRange: a Good of each row (vectors V3, V13, V16). -/
theorem witness_StoredValuesInRange :
    (∃ t, exec (.validateDht11 0x96003C005A#40) State.reset = .next t ∧ t.status = .good) ∧
    (∃ t, exec (.validateDhtxx 0x06F4819001#40) State.reset = .next t ∧ t.status = .good) ∧
    (∃ t, exec (.validateAuto 0xDD47059001#40) State.reset = .next t ∧ t.status = .good) :=
  ⟨⟨_, rfl, rfl⟩, ⟨_, rfl, rfl⟩, ⟨_, rfl, rfl⟩⟩

/-- ArmPendsResult, NopChangesNothing, the clauses on the words. -/
theorem witness_strobes :
    ((0x5FFFFFFFF#36).getLsbD 35 = false ∧ (0x5FFFFFFFF#36).getLsbD 34 = true ∧ (0x5FFFFFFFF#36).getLsbD 33 = false) ∧
    ((0x1FFFFFFFF#36).getLsbD 35 = false ∧ (0x1FFFFFFFF#36).getLsbD 34 = false ∧ (0x1FFFFFFFF#36).getLsbD 33 = false) := by decide

/-- ResetWritesAllEight, second clause. -/
theorem witness_ResetWritesAllEight : (0x800000000#36).getLsbD 35 = true ∧ (0xFFFFFFFFF#36).getLsbD 35 = true := by decide

/-- ReservedEncodingsRefused, the clauses with premises. -/
theorem witness_ReservedEncodingsRefused :
    State.reset.modelPort ≠ 3 ∧ 0x600000000#36 &&& 0xE00000000#36 = 0x600000000#36 ∧
    0x7FFFFFFFF#36 &&& 0xE00000000#36 = 0x600000000#36 ∧ ({ State.reset with modelPort := 3 } : State).modelPort = 3 := by decide

/-- CompletionUnderReservedModel. -/
theorem witness_CompletionUnderReservedModel :
    ({ beforeLast with modelPort := 3 } : State).modelPort = 3 ∧ ({ beforeLast with modelPort := 3 } : State).bits + 1 = 40#7 := by
  decide

/-- StepRunsDecodedWord, OnlyReservedStops, EveryInstructionCompletes: a configured state, with a word and without. -/
theorem witness_StepRunsDecodedWord :
    afterGood.modelPort ≠ 3 ∧ afterGood.events = [] ∧
    ({ afterGood with events := [edge 5, edge 6] } : State).events = edge 5 :: [edge 6] ∧
    edge 5 &&& 0xE00000000#36 ≠ 0x600000000#36 := by decide

/-- EveryInstructionCompletes: an instruction that is not the reserved one. -/
theorem witness_EveryInstructionCompletes : ∀ x, Instr.arm 0 ≠ .reservedArmEdge x := by intro x h; cases h

/-- LastTickWriters, StatusWriters, ValueWriters, NewDataWriters, InFrameWriters, ArmAndEdgeOrder: the edge of vector E14 completes
the frame, ends Good, and changes the values, the flag and `in_frame`. -/
theorem witness_completion :
    completes (edge 23764) beforeLast ∧ beforeLast.params.flagOnInvalid = false ∧ beforeLast.modelPort ≠ 3 ∧
    present (edge 23764) beforeLast = .next afterGood ∧ afterGood.lastTick ≠ beforeLast.lastTick ∧
    afterGood.status = .good ∧ afterGood.status ≠ beforeLast.status ∧
    (afterGood.temperatureX10 ≠ beforeLast.temperatureX10 ∨ afterGood.humidityX10 ≠ beforeLast.humidityX10) ∧
    (beforeLast.newData = false ∧ afterGood.newData = true) ∧ (beforeLast.inFrame = true ∧ afterGood.inFrame = false) :=
  ⟨⟨by decide, 1, 23764, .inl (by decide)⟩, by decide, by decide, rfl, by decide, by decide, by decide, by decide, by decide,
    by decide⟩

/-- The other clauses: ARM clears the flag and changes the status, RESET changes the values, SYNC and VIOL write `in_frame`. -/
theorem witness_writers :
    (decodeEvent 0x400000000#36 = .arm 0 ∧
      present 0x400000000#36 afterGood = .next (st 23764 false 40 0x550019003C ⟨.timeout, 250, 600, false⟩)) ∧
    (decodeEvent 0x800000000#36 = .reset 0 ∧ present 0x800000000#36 afterGood = .next (st 0 false 0 0 pending)) ∧
    (∃ t, present (edge 33765) afterGood = .next t ∧ t.inFrame = true ∧ afterGood.inFrame = false) ∧
    (∃ t, present (edge 23689) beforeLast = .next t ∧ t.inFrame = false ∧ beforeLast.inFrame = true) :=
  ⟨⟨by decide, rfl⟩, ⟨by decide, rfl⟩, ⟨_, rfl, by decide, by decide⟩, ⟨_, rfl, by decide, by decide⟩⟩

/-- ModelReadOnlyAtCompletion: an edge that does not complete a frame. -/
theorem witness_ModelReadOnlyAtCompletion :
    (2 : Code2) ≠ 3 ∧ ¬completes (edge 1100) (st 1000 true 7 0x2A pending) ∧
    present (edge 1100) (st 1000 true 7 0x2A pending) = .next (st 1100 true 8 0x54 pending) :=
  ⟨by decide, fun h => absurd h.1 (by decide), rfl⟩

/-- FirstEdgeAfterReset: each of its two cases (vectors Q8, Q9). -/
theorem witness_FirstEdgeAfterReset :
    (1 : Code2) ≠ 3 ∧ ¬((5000#32 - 0#32).toNat > 10000) ∧ (5000#32 - 4294960000#32).toNat > 10000 := by decide

/-- DeadRegistersUnobservable: two Idle states that differ in the dead registers. -/
theorem witness_DeadRegistersUnobservable :
    afterGood.inFrame = false ∧
    st 23764 false (-2) 0 ⟨.good, 250, 600, true⟩ = { afterGood with bits := BitVec.ofInt 7 (-2), code := 0 } := by decide

/-- The default intervals of R58 carry their bits. -/
theorem carries_bitIntervals (bits : List Bool) : List.Forall₂ carries bits (bitIntervals 76 120 bits) := by
  induction bits with
  | nil => exact .nil
  | cons b bits ih =>
    refine .cons ?_ ih
    cases b
    · exact (by decide : 60 ≤ (76#32).toNat ∧ (76#32).toNat ≤ 100)
    · exact (by decide : 101 ≤ (120#32).toNat ∧ (120#32).toNat ≤ 150)

/-- SentFrameIsValidated, ReadReturnsGoodFrame, ArmInFlightKeepsFrame: the source's frame (vector V1), the least sync and the greatest discard intervals. -/
theorem witness_SentFrame :
    State.reset.sensorModel = some .auto ∧ 10000 < (10001#32).toNat ∧ (0#32).toNat ≤ 10000 ∧ (10000#32).toNat ≤ 10000 ∧
    List.Forall₂ carries (frameBits 0x550019003C#40) (bitIntervals 76 120 (frameBits 0x550019003C#40)) ∧
    launchPremise [gaps State.reset.lastTick (10001 :: 0 :: 10000 :: bitIntervals 76 120 (frameBits 0x550019003C#40))] State.reset ∧
    (let b := frameBytes State.reset.params.b0AtMsb 0x550019003C#40;
      checksum b.b1 b.b2 b.b3 b.b4 = b.b0.toNat ∧ (decodePayload .auto b.b1 b.b2 b.b3 b.b4).valid = true) :=
  ⟨rfl, by decide, by decide, by decide, carries_bitIntervals _, launchPremise_gaps _ _ _ rfl, by decide⟩

/-- ArmInFlightKeepsFrame: the 43 edges cut after the 20th data edge (program P5) and before the last edge. -/
theorem witness_ArmInFlightKeepsFrame :
    let ws := sendFrame 0 0x550019003C#40 20000 110 130 76 120
    (ws = ws.take 23 ++ ws.drop 23 ∧ ws.drop 23 ≠ []) ∧ (ws = ws.take 42 ++ ws.drop 42 ∧ ws.drop 42 ≠ []) := by
  refine ⟨⟨(List.take_append_drop _ _).symm, ?_⟩, (List.take_append_drop _ _).symm, ?_⟩ <;> exact List.cons_ne_nil _ _

/-- ReadReportsFailedFrame: both clauses, vectors V2 and V21; the polls that follow are one empty and one with a NOP. -/
theorem witness_ReadReportsFailedFrame :
    State.reset.params.flagOnInvalid = false ∧
    List.Forall₂ carries (frameBits 0xC800640064#40) (bitIntervals 76 120 (frameBits 0xC800640064#40)) ∧
    (∀ ws ∈ [[], [0#36]], ∀ w ∈ ws, ∃ x, decodeEvent w = .nop x) ∧
    launchPremise (gaps State.reset.lastTick (10001 :: 0 :: 10000 :: bitIntervals 76 120 (frameBits 0xC800640064#40))
      :: [[], [0#36]]) State.reset ∧
    (let b := frameBytes true 0x560019003C#40; checksum b.b1 b.b2 b.b3 b.b4 ≠ b.b0.toNat) ∧
    (let b := frameBytes true 0xC800640064#40;
      checksum b.b1 b.b2 b.b3 b.b4 = b.b0.toNat ∧ (decodePayload .auto b.b1 b.b2 b.b3 b.b4).valid = false) := by
  refine ⟨rfl, carries_bitIntervals _, ?_, ⟨rfl, ?_⟩, by decide, by decide⟩
  · intro ws hws w hw
    simp only [List.mem_cons, List.not_mem_nil, or_false] at hws
    rcases hws with rfl | rfl
    · cases hw
    · rw [List.mem_singleton.1 hw]
      exact ⟨0, by decide⟩
  · intro w hw
    rw [List.flatten_cons] at hw
    rcases List.mem_append.1 hw with hw | hw
    · obtain ⟨tick, rfl⟩ := gaps_edges _ _ w hw
      exact isArmWord_edge 1 tick
    · rw [List.mem_singleton.1 hw]
      decide

/-- FlagMeansGoodSinceArm: a one-word sequence that sets the flag. -/
theorem witness_FlagMeansGoodSinceArm :
    beforeLast.params.flagOnInvalid = false ∧ beforeLast.newData = false ∧
    runWords [edge 23764] beforeLast = .next afterGood ∧ afterGood.newData = true :=
  ⟨by decide, by decide, rfl, by decide⟩

/-- ArmAndEdgeOrder, first clause: an edge that completes nothing (the second clause: `witness_completion`). -/
theorem witness_ArmAndEdgeOrder : afterGood.modelPort ≠ 3 ∧ ¬completes (edge 23840) afterGood :=
  ⟨by decide, fun h => absurd h.1 (by decide)⟩

/-- StepsConsumeWords, LegalSequencesRunToTheEnd: two words that run, and a legal configuration. -/
theorem witness_StepsConsumeWords :
    runWords [edge 23764, 0x400000000#36] beforeLast = .next (st 23764 false 40 0x550019003C ⟨.timeout, 250, 600, false⟩) ∧
    beforeLast.configured ∧ ∀ w ∈ [edge 23764, 0x400000000#36], notReserved w = true := by
  refine ⟨rfl, fun h => absurd h (by decide), ?_⟩
  intro w hw
  rcases List.mem_cons.1 hw with rfl | hw
  · decide
  · rw [List.mem_singleton.1 hw]; decide

/-- ReadWithoutEdgesTimesOut: two polls with NOPs, armed while Idle. -/
theorem witness_ReadWithoutEdgesTimesOut :
    afterGood.modelPort ≠ 3 ∧ launchPremise [[0#36], [0x1FFFFFFFF#36]] afterGood ∧
    decodeEvent 0#36 = .nop 0 ∧ decodeEvent 0x1FFFFFFFF#36 = .nop 0x1FFFFFFFF := by
  refine ⟨by decide, ⟨rfl, ?_⟩, by decide, by decide⟩
  intro w hw
  rcases List.mem_cons.1 hw with rfl | hw
  · decide
  · rw [List.mem_singleton.1 hw]
    decide

/-- ReadWithoutFrameTimesOut: armed while Idle, the polls see a sync and a discard edge, which complete nothing. -/
theorem witness_ReadWithoutFrameTimesOut :
    afterGood.modelPort ≠ 3 ∧ launchPremise [[edge 33765], [edge 33865]] afterGood ∧
    (∀ w ∈ ([[edge 33765], [edge 33865]] : List (List EventWord)).flatten, keepsFlag w = true ∧ notReserved w = true) ∧
    ∀ (before after : List EventWord) (w : EventWord) (u : State),
      ([[edge 33765], [edge 33865]] : List (List EventWord)).flatten = before ++ w :: after →
      runWords before { afterGood with status := .timeout, newData := false } = .next u → ¬completes w u := by
  have both : ∀ p : EventWord → Prop, p (edge 33765) → p (edge 33865) →
      ∀ w ∈ ([[edge 33765], [edge 33865]] : List (List EventWord)).flatten, p w := by
    intro p h1 h2 w hw
    rcases List.mem_cons.1 hw with rfl | hw
    · exact h1
    · rw [List.mem_singleton.1 hw]
      exact h2
  refine ⟨by decide, ⟨rfl, both _ (by decide) (by decide)⟩, both _ (by decide) (by decide), ?_⟩
  intro before after w u h hu hc
  match before with
  | [] => cases hu; exact absurd hc.1 (by decide)
  | [x] => cases h; cases hu; exact absurd hc.1 (by decide)
  | x :: y :: zs => simp at h

/-- CancelledSensorYieldsNothing: a cancelled Sensor that steps. -/
theorem witness_CancelledSensorYieldsNothing :
    ∃ t, Host.Core.run Sys2Proof.core 1 (cancel { beforeLast with events := [edge 23764] }) = .next t := ⟨_, rfl⟩

/-- SensorsAreIndependent: two Sensors that step. -/
theorem witness_SensorsAreIndependent :
    (0 : Fin 2) ≠ 1 ∧ (∃ a, stepSensor (0 : Fin 2) #v[afterGood, State.reset] = .next a) ∧
    ∃ b, stepSensor (1 : Fin 2) #v[afterGood, State.reset] = .next b :=
  ⟨by decide, ⟨_, rfl⟩, ⟨_, rfl⟩⟩

/-- LoadedWordRunsNext, second clause. -/
theorem witness_LoadedWordRunsNext : afterGood.sensorModel = some .dht11 ∧ 2 ^ 36 ≤ (0x550019003C#40).toNat := by decide

end Sys2Proof.Tests
end

/-! ## What one presented word does, by cases -/

namespace Sys2Proof

/-- The other half of `classify_of_condition` (R47): the ordered tests give a class whose row's condition holds. -/
theorem condition_classify (interval : Tick) (inFrame : Bool) (bits : Counter) :
    (classify interval inFrame bits).condition interval inFrame bits = true := by
  simp only [classify]
  split_ifs <;> simp_all [EdgeClass.condition, syncThreshold, pulseMin, pulseMax, oneThreshold]
  -- the window of VIOL is what is left when both pulse tests fail
  omega

theorem condition_of_classify {c : EdgeClass} {interval : Tick} {inFrame : Bool} {bits : Counter}
    (h : classify interval inFrame bits = c) : c.condition interval inFrame bits = true :=
  h ▸ condition_classify interval inFrame bits

/-- Outside a frame only the sync test counts, and `bits` is not read. -/
theorem classify_idle (interval : Tick) (bits : Counter) :
    classify interval false bits = if interval.toNat > syncThreshold then .sync else .ignore := by
  simp [classify]

theorem idle_of_classify_ignore {interval : Tick} {inFrame : Bool} {bits : Counter}
    (h : classify interval inFrame bits = .ignore) : inFrame = false := by
  obtain ⟨-, hidle⟩ : interval.toNat ≤ syncThreshold ∧ inFrame = false := by
    simpa [EdgeClass.condition] using condition_of_classify h
  exact hidle

theorem discard_of_classify_skip {interval : Tick} {inFrame : Bool} {bits : Counter}
    (h : classify interval inFrame bits = .skip) : inFrame = true ∧ bits.toInt < 0 := by
  obtain ⟨⟨-, hin⟩, hb⟩ : (interval.toNat ≤ syncThreshold ∧ inFrame = true) ∧ bits.toInt + 1 < 1 := by
    simpa [EdgeClass.condition] using condition_of_classify h
  exact ⟨hin, by omega⟩

theorem inData_of_classify_viol {interval : Tick} {inFrame : Bool} {bits : Counter}
    (h : classify interval inFrame bits = .viol) : inFrame = true ∧ 0 ≤ bits.toInt := by
  have hc := condition_of_classify h
  simp only [EdgeClass.condition, Bool.and_eq_true, decide_eq_true_eq] at hc
  exact ⟨hc.1.1, by omega⟩

/-- The class of a data edge that carries a bit (R66, R67). -/
def dataClass : Bool → EdgeClass
  | false => .bit0
  | true => .bit1

theorem dataClass_eq_ite (bit : Bool) : dataClass bit = if bit then .bit1 else .bit0 := by
  cases bit <;> rfl

theorem inData_of_classify_dataClass {bit : Bool} {interval : Tick} {inFrame : Bool} {bits : Counter}
    (h : classify interval inFrame bits = dataClass bit) : inFrame = true ∧ 0 ≤ bits.toInt := by
  have hc := condition_of_classify h
  cases bit with
  | false =>
    simp only [dataClass, EdgeClass.condition, Bool.and_eq_true, decide_eq_true_eq] at hc
    exact ⟨hc.1.1.2, by omega⟩
  | true =>
    simp only [dataClass, EdgeClass.condition, Bool.and_eq_true, decide_eq_true_eq] at hc
    exact ⟨hc.1.1.2, by omega⟩

end Sys2Proof

namespace Sys2Proof.Machine

/-- What an EDGE event does in a configured block, a case per class and the completing data edge apart: the class, the part
of its condition (R47) that speaks of the state, and the state it leaves. -/
inductive EdgeStep (s : State) (tick : Tick) : EdgeClass → State → Prop
  | sync : EdgeStep s tick .sync (s.noteTick tick).openFrame
  | ignore (idle : s.inFrame = false) : EdgeStep s tick .ignore (s.noteTick tick)
  | skip (inFrame : s.inFrame = true) (discard : s.bits.toInt < 0) : EdgeStep s tick .skip (s.noteTick tick).countEdge
  | viol (inFrame : s.inFrame = true) (data : 0 ≤ s.bits.toInt) :
      EdgeStep s tick .viol (afterData false tick s).leaveFrame
  | shift (bit : Bool) (inFrame : s.inFrame = true) (data : 0 ≤ s.bits.toInt) (more : s.bits + 1 ≠ frameBitCount) :
      EdgeStep s tick (dataClass bit) (afterData bit tick s)
  | complete (bit : Bool) (m : SensorModel) (inFrame : s.inFrame = true) (last : s.bits + 1 = frameBitCount) :
      EdgeStep s tick (dataClass bit) (validate m (afterData bit tick s).code (afterData bit tick s)).leaveFrame

/-- What a word does when the block goes on: the first-level decode (R44) and, for an EDGE, its class and step. -/
inductive PresentStep (w : EventWord) (s : State) : State → Prop
  | reset (x : BitVec 35) (hw : decodeEvent w = .reset x) : PresentStep w s s.resetBlock
  | arm (x : BitVec 33) (hw : decodeEvent w = .arm x) : PresentStep w s s.pend
  | nop (x : BitVec 33) (hw : decodeEvent w = .nop x) : PresentStep w s s
  | edge (level : BitVec 1) (tick : Tick) (c : EdgeClass) (t : State) (hw : decodeEvent w = .edge level tick)
      (hd : decode s.edgeContext (.event w) = edgeInstr c level tick) (he : EdgeStep s tick c t) : PresentStep w s t

/-- The second-level decode of an EDGE word (R46, R47). -/
theorem decode_of_edge {w : EventWord} {level : BitVec 1} {tick : Tick} (hw : decodeEvent w = .edge level tick)
    (s : State) : decode s.edgeContext (.event w)
      = edgeInstr (classify (s.interval tick) s.inFrame s.bits) level tick := by
  rw [decode, hw]
  rfl

/-- The cases of `present_next_cases`, named. -/
theorem presentStep_of_next {w : EventWord} {s t : State} (h : present w s = .next t) : PresentStep w s t := by
  rcases (present_next_cases w s t h).2 with
    ⟨x, hw, rfl⟩ | ⟨x, hw, rfl⟩ | ⟨x, hw, rfl⟩ | ⟨level, tick, hw, hcase⟩
  · exact .reset x hw
  · exact .arm x hw
  · exact .nop x hw
  · refine .edge level tick _ t hw (decode_of_edge hw s) ?_
    rcases hcase with ⟨hc, rfl⟩ | ⟨hc, rfl⟩ | ⟨hc, rfl⟩ | ⟨hc, rfl⟩ | ⟨bit, hc, hdata⟩
    · exact hc ▸ .sync
    · exact hc ▸ .ignore (idle_of_classify_ignore hc)
    · obtain ⟨hin, hneg⟩ := discard_of_classify_skip hc
      exact hc ▸ .skip hin hneg
    · obtain ⟨hin, hpos⟩ := inData_of_classify_viol hc
      exact hc ▸ .viol hin hpos
    · rw [← dataClass_eq_ite] at hc
      obtain ⟨hin, hpos⟩ := inData_of_classify_dataClass hc
      rcases hdata with ⟨hmore, rfl⟩ | ⟨m, hlast, -, rfl⟩
      · exact hc ▸ .shift bit hin hpos hmore
      · exact hc ▸ .complete bit m hin hlast

/-! ### The completing edge -/

/-- An EDGE completes a frame exactly as its class and the counter say (R69). -/
theorem completes_iff_of_edge {w : EventWord} {s : State} {c : EdgeClass} {level : BitVec 1} {tick : Tick}
    (hd : decode s.edgeContext (.event w) = edgeInstr c level tick) :
    completes w s ↔ s.bits + 1 = frameBitCount ∧ ∃ bit, c = dataClass bit := by
  cases c <;> simp [completes, hd, edgeInstr, dataClass]

/-- Only an EDGE word completes a frame. -/
theorem edge_of_completes {w : EventWord} {s : State} (h : completes w s) :
    ∃ level tick, decodeEvent w = .edge level tick := by
  obtain ⟨-, level, tick, hd⟩ := h
  cases hw : decodeEvent w with
  | edge level tick => exact ⟨level, tick, rfl⟩
  | reset x => simp [decode, hw, instrOfEvent] at hd
  | arm x => simp [decode, hw, instrOfEvent] at hd
  | nop x => simp [decode, hw, instrOfEvent] at hd
  | reserved x => simp [decode, hw, instrOfEvent] at hd

/-- The words that `keepsFlag` names (R18). -/
theorem keepsFlag_eq_false_iff (w : EventWord) :
    keepsFlag w = false ↔ (∃ x, decodeEvent w = .arm x) ∨ ∃ x, decodeEvent w = .reset x := by
  cases hw : decodeEvent w <;> simp [keepsFlag, hw]

theorem keepsFlag_of_edge {w : EventWord} {level : BitVec 1} {tick : Tick} (hw : decodeEvent w = .edge level tick) :
    keepsFlag w = true := by
  simp [keepsFlag, hw]

theorem keepsFlag_of_completes {w : EventWord} {s : State} (h : completes w s) : keepsFlag w = true := by
  obtain ⟨level, tick, hw⟩ := edge_of_completes h
  exact keepsFlag_of_edge hw

/-! ### The result group -/

theorem State.observe_eq_iff (s t : State) :
    s.observe = t.observe ↔ s.status = t.status ∧ s.temperatureX10 = t.temperatureX10 ∧
      s.humidityX10 = t.humidityX10 ∧ s.newData = t.newData := by
  simp [State.observe]

/-! ### The values that a layout accepts -/

/-- Every DHT11 or DHTxx reading, in tenths (R94): the ranges of `State.valuesInRange`, on exact integers. -/
def Candidate.inRange (c : Candidate) : Prop :=
  (-500 ≤ c.t10 ∧ c.t10 ≤ 1350) ∧ (0 ≤ c.h10 ∧ c.h10 ≤ 1100)

theorem layoutDht11_inRange (b1 b2 b3 b4 : Byte) (h : (layoutDht11 b1 b2 b3 b4).valid = true) :
    (layoutDht11 b1 b2 b3 b4).inRange := by
  simp only [Candidate.inRange, layoutDht11, Bool.and_eq_true, decide_eq_true_eq,
    dht11TMaxX10, dht11HMinX10, dht11HMaxX10] at h ⊢
  omega

theorem layoutDhtxx_inRange (b1 b2 b3 b4 : Byte) (h : (layoutDhtxx b1 b2 b3 b4).valid = true) :
    (layoutDhtxx b1 b2 b3 b4).inRange := by
  simp only [Candidate.inRange, layoutDhtxx, Bool.and_eq_true, decide_eq_true_eq,
    dhtxxHMaxX10, dhtxxTMinX10, dhtxxTMaxX10] at h ⊢
  omega

/-- Whatever the model, a valid payload lies in the overall ranges (R94). -/
theorem decodePayload_inRange (m : SensorModel) (b1 b2 b3 b4 : Byte) (h : (decodePayload m b1 b2 b3 b4).valid = true) :
    (decodePayload m b1 b2 b3 b4).inRange := by
  cases m with
  | dht11 => exact layoutDht11_inRange b1 b2 b3 b4 h
  | dhtxx => exact layoutDhtxx_inRange b1 b2 b3 b4 h
  | auto =>
    simp only [decodePayload] at h ⊢
    split at h
    · next hx => rw [if_pos hx]; exact layoutDhtxx_inRange b1 b2 b3 b4 hx
    · next hx => rw [if_neg hx]; exact layoutDht11_inRange b1 b2 b3 b4 h

/-- The 16-bit registers hold a candidate in range without wrapping (R88, R90). -/
theorem recordGood_valuesInRange (s : State) (c : Candidate) (h : c.inRange) :
    (s.recordGood c.t10 c.h10).valuesInRange := by
  obtain ⟨⟨ht, ht'⟩, hh, hh'⟩ := h
  simp only [State.valuesInRange, State.recordGood_temperatureX10, State.recordGood_humidityX10, BitVec.toInt_ofInt,
    BitVec.toNat_ofInt, Int.bmod]
  omega

/-- Being in range depends on the result group only. -/
theorem valuesInRange_of_observe_eq {s t : State} (h : t.observe = s.observe) (hs : s.valuesInRange) :
    t.valuesInRange := by
  obtain ⟨-, ht, hh, -⟩ := (t.observe_eq_iff s).1 h
  simpa only [State.valuesInRange, ht, hh] using hs

/-! ### The writers of the result group -/

/-- How a word writes the result group when the block goes on (R89, R100 to R103). -/
inductive ResultStep (w : EventWord) (s t : State) : Prop
  | good (c : Candidate) (hc : completes w s) (hr : c.inRange) (ho : t.observe = (s.recordGood c.t10 c.h10).observe)
  | failed (st : Status) (hc : completes w s) (hst : st = .badChecksum ∨ st = .badData)
      (ho : t.observe = (s.recordFailure st).observe)
  | arm (hn : ¬completes w s) (hw : ∃ x, decodeEvent w = .arm x) (ho : t.observe = s.pend.observe)
  | reset (hn : ¬completes w s) (hw : ∃ x, decodeEvent w = .reset x) (ho : t.observe = s.resetBlock.observe)
  | keep (hn : ¬completes w s) (hk : keepsFlag w = true) (ho : t.observe = s.observe)

/-- VALIDATE inside the completing edge writes what VALIDATE of the frame writes on the state before the edge. -/
theorem validate_afterData_observe (m : SensorModel) (f : Frame) (bit : Bool) (tick : Tick) (s : State) :
    (validate m f (afterData bit tick s)).observe = (validate m f s).observe := by
  rw [validate_comm (afterData bit tick) (fun _ => rfl) (fun _ _ _ => rfl) (fun _ _ => rfl) m f s]
  rfl

/-- An edge that VALIDATE runs in writes the result group by the outcome of the frame. -/
theorem resultStep_of_validate {w : EventWord} {s t : State} {m : SensorModel} {f : Frame} (hc : completes w s)
    (ho : t.observe = (validate m f s).observe) : ResultStep w s t := by
  rcases validate_cases m f s with ⟨-, h⟩ | ⟨-, -, h⟩ | ⟨-, hv, h⟩ <;> rw [h] at ho
  · exact .failed .badChecksum hc (.inl rfl) ho
  · exact .failed .badData hc (.inr rfl) ho
  · exact .good _ hc (decodePayload_inRange m _ _ _ _ hv) ho

/-- An EDGE writes the result group only when it completes a frame (R69). -/
theorem EdgeStep.resultStep {w : EventWord} {s t : State} {level : BitVec 1} {tick : Tick} {c : EdgeClass}
    (he : EdgeStep s tick c t) (hw : decodeEvent w = .edge level tick)
    (hd : decode s.edgeContext (.event w) = edgeInstr c level tick) : ResultStep w s t := by
  have hcomp := completes_iff_of_edge hd
  have hk := keepsFlag_of_edge hw
  cases he with
  | sync => exact .keep (by simp [hcomp, dataClass]) hk rfl
  | ignore => exact .keep (by simp [hcomp, dataClass]) hk rfl
  | skip => exact .keep (by simp [hcomp, dataClass]) hk rfl
  | viol => exact .keep (by simp [hcomp, dataClass]) hk rfl
  | shift bit hin hpos hmore => exact .keep (fun h => hmore (hcomp.1 h).1) hk rfl
  | complete bit m hin hlast => exact resultStep_of_validate (hcomp.2 ⟨hlast, bit, rfl⟩) (validate_afterData_observe ..)

theorem resultStep_of_next {w : EventWord} {s t : State} (h : present w s = .next t) : ResultStep w s t := by
  have hedge : completes w s → ∃ level tick, decodeEvent w = .edge level tick := edge_of_completes
  cases presentStep_of_next h with
  | reset x hw => exact .reset (by simpa [hw] using hedge) ⟨x, hw⟩ rfl
  | arm x hw => exact .arm (by simpa [hw] using hedge) ⟨x, hw⟩ rfl
  | nop x hw => exact .keep (by simpa [hw] using hedge) (by simp [keepsFlag, hw]) rfl
  | edge level tick c t hw hd he => exact he.resultStep hw hd

/-! ## The invariant (R23, R94) -/

/-- Below 63 the 7-bit counter counts without wrapping (R13). -/
theorem counter_succ_toInt (b : Counter) (h : b.toInt ≤ 62) : (b + 1).toInt = b.toInt + 1 := by
  have hlow := b.le_toInt
  rw [BitVec.toInt_add, show (1 : Counter).toInt = 1 from rfl, Int.bmod_eq_of_le] <;> omega

theorem counter_add_one_eq_40_iff (b : Counter) (h : b.toInt ≤ 62) : b + 1 = frameBitCount ↔ b.toInt = 39 := by
  rw [← BitVec.toInt_inj, counter_succ_toInt b h, show frameBitCount.toInt = 40 from rfl]
  omega

/-- Below 2^39 the shift loses no bit (R70). -/
theorem shiftIn_code_toNat (s : State) (bit : Bool) (h : s.code.toNat < 2 ^ 39) :
    (s.shiftIn bit).code.toNat = 2 * s.code.toNat + bit.toNat := by
  have hbit : (if bit then 1#40 else 0#40).toNat = bit.toNat := by cases bit <;> rfl
  have hle : bit.toNat ≤ 1 := Bool.toNat_le bit
  rw [State.shiftIn_code, BitVec.toNat_add, BitVec.toNat_shiftLeft, hbit, Nat.shiftLeft_eq]
  omega

/-- Items 1 to 3 of R23, on the frame registers alone. -/
structure State.FrameInv (s : State) : Prop where
  bits_range : -2 ≤ s.bits.toInt ∧ s.bits.toInt ≤ 40
  frame_open : s.inFrame = true → s.bits.toInt ≤ 39
  code_small : s.inFrame = true → s.code.toNat < 2 ^ s.bits.toInt.toNat

/-- Outside a frame only the range of the counter is claimed. -/
theorem State.FrameInv.of_idle {s : State} (hidle : s.inFrame = false) (hb : -2 ≤ s.bits.toInt ∧ s.bits.toInt ≤ 40) :
    s.FrameInv :=
  ⟨hb, by simp [hidle], by simp [hidle]⟩

/-- The tick is no frame register. -/
theorem State.FrameInv.noteTick {s : State} (hs : s.FrameInv) (tick : Tick) : (s.noteTick tick).FrameInv :=
  ⟨hs.bits_range, hs.frame_open, hs.code_small⟩

/-- A frame opens with the counter at -2 and the shift register at 0 (R63). -/
theorem State.FrameInv.openFrame (s : State) : s.openFrame.FrameInv := by
  have hbits : s.openFrame.bits.toInt = -2 := by rw [State.openFrame_bits]; decide
  exact ⟨by omega, fun _ => by omega, fun _ => by simp⟩

/-- A discard edge: the counter stays at most 0, the shift register stays 0. -/
theorem State.FrameInv.countEdge {s : State} (hs : s.FrameInv) (hin : s.inFrame = true) (hneg : s.bits.toInt < 0) :
    s.countEdge.FrameInv := by
  obtain ⟨⟨hlow, -⟩, -, hcode⟩ := hs
  have hbits := counter_succ_toInt s.bits (by omega)
  have hzero : s.code.toNat < 2 ^ 0 := by simpa [Int.toNat_of_nonpos hneg.le] using hcode hin
  refine ⟨?_, fun _ => ?_, fun _ => ?_⟩ <;> simp only [State.countEdge_bits, State.countEdge_code, hbits]
  · omega
  · omega
  · exact hzero.trans_le (Nat.pow_le_pow_right (by decide) (Nat.zero_le _))

/-- A data edge in a frame counts and doubles. -/
theorem State.FrameInv.afterData_bits {s : State} (hs : s.FrameInv) (hin : s.inFrame = true) (bit : Bool) (tick : Tick) :
    (afterData bit tick s).bits.toInt = s.bits.toInt + 1 :=
  counter_succ_toInt s.bits (by have := hs.frame_open hin; omega)

/-- A data edge that does not complete: one bit more in the register. -/
theorem State.FrameInv.afterData {s : State} (hs : s.FrameInv) (hin : s.inFrame = true) (hpos : 0 ≤ s.bits.toInt)
    (hmore : s.bits + 1 ≠ frameBitCount) (bit : Bool) (tick : Tick) : (afterData bit tick s).FrameInv := by
  have hbits := hs.afterData_bits hin bit tick
  obtain ⟨-, hopen, hcode⟩ := hs
  have h39 : s.bits.toInt ≠ 39 := fun h => hmore ((counter_add_one_eq_40_iff s.bits (by omega)).2 h)
  have hle := hopen hin
  have hsmall : s.code.toNat < 2 ^ s.bits.toInt.toNat := hcode hin
  have hpow : 2 ^ s.bits.toInt.toNat ≤ 2 ^ 39 := Nat.pow_le_pow_right (by decide) (by omega)
  have hshift : (Machine.afterData bit tick s).code.toNat = 2 * s.code.toNat + bit.toNat :=
    shiftIn_code_toNat _ bit (hsmall.trans_le hpow)
  refine ⟨by omega, fun _ => by omega, fun _ => ?_⟩
  have hbit : bit.toNat ≤ 1 := Bool.toNat_le bit
  rw [hshift, hbits, Int.toNat_add hpos (by decide), show (1 : Int).toNat = 1 from rfl, pow_succ]
  omega

theorem EdgeStep.frameInv {s t : State} {tick : Tick} {c : EdgeClass} (he : EdgeStep s tick c t) (hs : s.FrameInv) :
    t.FrameInv := by
  cases he with
  | sync => exact .openFrame (s.noteTick tick)
  | ignore => exact hs.noteTick tick
  | skip hin hneg => exact (hs.noteTick tick).countEdge hin hneg
  | viol hin hpos =>
    have hbits := hs.afterData_bits hin false tick
    have hle := hs.frame_open hin
    exact .of_idle rfl (by rw [State.leaveFrame_bits]; omega)
  | shift bit hin hpos hmore => exact hs.afterData hin hpos hmore bit tick
  | complete bit m hin hlast =>
    have hbits := hs.afterData_bits hin bit tick
    have hle := hs.frame_open hin
    have hlow := hs.bits_range.1
    exact .of_idle rfl (by rw [State.leaveFrame_bits, validate_bits]; omega)

theorem PresentStep.frameInv {w : EventWord} {s t : State} (h : PresentStep w s t) (hs : s.FrameInv) : t.FrameInv := by
  cases h with
  | reset => exact .of_idle rfl (by simp)
  | arm => exact ⟨hs.bits_range, hs.frame_open, hs.code_small⟩
  | nop => exact hs
  | edge level tick c t hw hd he => exact he.frameInv hs

/-- The part of the invariant about the result group (R94, and R23, item 5). -/
structure State.ResultInv (s : State) : Prop where
  good_values : s.status = .good → s.valuesInRange
  flag_values : s.params.flagOnInvalid = false → s.newData = true → s.valuesInRange

theorem State.inv_iff (s : State) : s.Inv ↔ s.FrameInv ∧ s.ResultInv :=
  ⟨fun ⟨hb, ho, hc, hg, hf⟩ => ⟨⟨hb, ho, hc⟩, ⟨hg, hf⟩⟩,
    fun ⟨⟨hb, ho, hc⟩, ⟨hg, hf⟩⟩ => ⟨hb, ho, hc, hg, hf⟩⟩

/-- No event writes the parameters (R5). -/
theorem EdgeStep.params {s t : State} {tick : Tick} {c : EdgeClass} (he : EdgeStep s tick c t) : t.params = s.params := by
  cases he with
  | complete bit m => exact validate_params m _ _
  | _ => rfl

theorem PresentStep.params {w : EventWord} {s t : State} (h : PresentStep w s t) : t.params = s.params := by
  cases h with
  | edge level tick c t hw hd he => exact he.params
  | _ => rfl

theorem ResultStep.resultInv {w : EventWord} {s t : State} (h : ResultStep w s t) (hp : t.params = s.params)
    (hs : s.ResultInv) : t.ResultInv := by
  cases h with
  | good c hc hr ho =>
    have hv := valuesInRange_of_observe_eq ho (recordGood_valuesInRange s c hr)
    exact ⟨fun _ => hv, fun _ _ => hv⟩
  | failed st hc hst ho =>
    obtain ⟨hstatus, ht, hh, hflag⟩ := (t.observe_eq_iff _).1 ho
    refine ⟨fun hg => ?_, fun hfoi hnew => ?_⟩
    · rcases hst with rfl | rfl <;> simp [hstatus] at hg
    · have hold : s.newData = true := by simpa [hflag, ← hp, hfoi] using hnew
      simpa [State.valuesInRange, ht, hh] using hs.flag_values (hp ▸ hfoi) hold
  | arm hn hw ho | reset hn hw ho =>
    obtain ⟨hstatus, -, -, hflag⟩ := (t.observe_eq_iff _).1 ho
    exact ⟨by simp [hstatus], by simp [hflag]⟩
  | keep hn hk ho =>
    obtain ⟨hstatus, -, -, hflag⟩ := (t.observe_eq_iff _).1 ho
    exact ⟨fun hg => valuesInRange_of_observe_eq ho (hs.good_values (hstatus ▸ hg)),
      fun hfoi hnew => valuesInRange_of_observe_eq ho (hs.flag_values (hp ▸ hfoi) (hflag ▸ hnew))⟩

/-- One presented word keeps the invariant. -/
theorem present_inv {w : EventWord} {s t : State} (h : present w s = .next t) (hs : s.Inv) : t.Inv := by
  obtain ⟨hframe, hresult⟩ := s.inv_iff.1 hs
  have hstep := presentStep_of_next h
  exact t.inv_iff.2 ⟨hstep.frameInv hframe, (resultStep_of_next h).resultInv hstep.params hresult⟩

/-- The invariant does not speak of the words to come. -/
theorem State.Inv.fetch {s : State} (hs : s.Inv) : s.fetch.2.Inv :=
  ⟨hs.bits_range, hs.frame_open, hs.code_small, hs.good_values, hs.flag_values⟩

/-- Settles O39: a step is one presented word, which keeps the frame part and the result part of the invariant. -/
theorem stepKeepsInvariant : Obligations.StepKeepsInvariant := by
  unfold Obligations.StepKeepsInvariant
  intro s t hs hstep
  exact present_inv hstep hs.fetch

/-- Settles O38: the block is Idle, nothing is Good and the flag is clear. -/
theorem invariantAtReset : Obligations.InvariantAtReset := by
  unfold Obligations.InvariantAtReset
  intro p port
  refine (State.inv_iff _).2 ⟨.of_idle rfl (by simp), ⟨?_, ?_⟩⟩
  · simp
  · simp

/-- Settles O32, by the lemmas about `State.resetWith`. -/
theorem resetValues : Obligations.ResetValues := by
  unfold Obligations.ResetValues
  intro p port
  simp [Params.default]

/-! ## Who writes the tick and the frame flag (R11, R12) -/

/-- Whatever its class, an EDGE leaves its tick (R61). -/
theorem EdgeStep.lastTick {s t : State} {tick : Tick} {c : EdgeClass} (he : EdgeStep s tick c t) : t.lastTick = tick := by
  cases he with
  | complete bit m => exact validate_lastTick m _ _
  | _ => rfl

/-- Only a SYNC opens a frame. -/
theorem EdgeStep.sync_of_inFrame_set {s t : State} {tick : Tick} {c : EdgeClass} (he : EdgeStep s tick c t)
    (hs : s.inFrame = false) (ht : t.inFrame = true) : c = .sync := by
  cases he with
  | sync => rfl
  | ignore => simp [hs] at ht
  | viol => simp at ht
  | skip hin | shift _ hin | complete _ _ hin => simp [hs] at hin

/-- Only a VIOL or the completing edge ends a frame. -/
theorem EdgeStep.viol_or_last_of_inFrame_cleared {s t : State} {tick : Tick} {c : EdgeClass}
    (he : EdgeStep s tick c t) (hs : s.inFrame = true) (ht : t.inFrame = false) :
    c = .viol ∨ s.bits + 1 = frameBitCount ∧ ∃ bit, c = dataClass bit := by
  cases he with
  | viol => exact .inl rfl
  | complete bit m hin hlast => exact .inr ⟨hlast, bit, rfl⟩
  | sync => simp at ht
  | ignore hidle => simp [hs] at hidle
  | skip => simp [hs] at ht
  | shift => simp [afterData, hs] at ht

/-- Settles O40, by the event of the word. -/
theorem lastTickWriters : Obligations.LastTickWriters := by
  unfold Obligations.LastTickWriters
  intro w s t h
  cases presentStep_of_next h with
  | reset x hw => simp [hw]
  | arm x hw => simp [hw]
  | nop x hw => simp [hw]
  | edge level tick c t hw hd he => simp [hw, he.lastTick]

/-- Settles O41: of the EDGE classes only SYNC opens a frame, and only VIOL and completion end one. -/
theorem inFrameWriters : Obligations.InFrameWriters := by
  unfold Obligations.InFrameWriters
  intro w s t h
  cases presentStep_of_next h with
  | reset x hw => simp [hw]
  | arm x hw => simp +contextual [hw]
  | nop x hw => simp +contextual [hw]
  | edge level tick c t hw hd he =>
    refine ⟨by simp [hw], by simp [hw], fun hs ht => ?_, fun hs ht => ?_⟩
    · obtain rfl := he.sync_of_inFrame_set hs ht
      exact ⟨level, tick, hd⟩
    · rcases he.viol_or_last_of_inFrame_cleared hs ht with rfl | hlast
      · exact .inl ⟨level, tick, hd⟩
      · exact .inr (.inl ((completes_iff_of_edge hd).2 hlast))

/-! ## Who writes the result group (R15 to R18) -/

/-- Settles O42, by the writers of the result group. -/
theorem statusWriters : Obligations.StatusWriters := by
  unfold Obligations.StatusWriters
  intro w s t h
  rw [← keepsFlag_eq_false_iff]
  cases resultStep_of_next h with
  | good c hc hr ho =>
    obtain ⟨hstatus, -⟩ := (t.observe_eq_iff _).1 ho
    simp [hc, keepsFlag_of_completes hc, hstatus]
  | failed st hc hst ho =>
    obtain ⟨hstatus, -⟩ := (t.observe_eq_iff _).1 ho
    simp [hc, keepsFlag_of_completes hc, hstatus, hst]
  | arm hn hw ho | reset hn hw ho =>
    obtain ⟨hstatus, -⟩ := (t.observe_eq_iff _).1 ho
    simp [hn, keepsFlag_eq_false_iff, hw, hstatus]
  | keep hn hk ho =>
    obtain ⟨hstatus, -⟩ := (t.observe_eq_iff _).1 ho
    simp [hn, hk, hstatus]

/-- Settles O43: of the writers, only a Good and RESET touch the values. -/
theorem valueWriters : Obligations.ValueWriters := by
  unfold Obligations.ValueWriters
  intro w s t h hchange
  cases resultStep_of_next h with
  | good c hc hr ho =>
    obtain ⟨hstatus, -, -, hflag⟩ := (t.observe_eq_iff _).1 ho
    exact .inl ⟨hc, hstatus, hflag⟩
  | reset hn hw ho => exact .inr hw
  | failed _ _ _ ho | arm _ _ ho | keep _ _ ho =>
    obtain ⟨-, ht, hh, -⟩ := (t.observe_eq_iff _).1 ho
    simp [ht, hh] at hchange

/-- Settles O44: with FLAG_ON_INVALID false a failed frame leaves the flag as it is. -/
theorem newDataWriters : Obligations.NewDataWriters := by
  unfold Obligations.NewDataWriters
  intro w s t hfoi h
  rw [← keepsFlag_eq_false_iff]
  cases resultStep_of_next h with
  | good c hc hr ho =>
    obtain ⟨hstatus, -, -, hflag⟩ := (t.observe_eq_iff _).1 ho
    simp [hc, keepsFlag_of_completes hc, hstatus, hflag]
  | failed st hc hst ho =>
    obtain ⟨hstatus, -, -, hflag⟩ := (t.observe_eq_iff _).1 ho
    have hbad : t.status ≠ .good := by rcases hst with rfl | rfl <;> simp [hstatus]
    simp +contextual [hbad, keepsFlag_of_completes hc, hflag, hfoi]
  | arm hn hw ho | reset hn hw ho =>
    obtain ⟨-, -, -, hflag⟩ := (t.observe_eq_iff _).1 ho
    simp [hn, keepsFlag_eq_false_iff, hw, hflag]
  | keep hn hk ho =>
    obtain ⟨-, -, -, hflag⟩ := (t.observe_eq_iff _).1 ho
    simp +contextual [hn, hk, hflag]

/-! ## What a set flag means (R23, item 5) -/

theorem runWords_cons_inv {w : EventWord} {ws : List EventWord} {s t : State} (h : runWords (w :: ws) s = .next t) :
    ∃ u, present w s = .next u ∧ runWords ws u = .next t := by
  rw [runWords] at h
  split at h
  · next u hu => exact ⟨u, hu, h⟩
  · cases h
  · cases h

/-- No word of `ws`, run from `v`, clears the flag or completes a frame Good, and at the end, `t`, the values are those
of `v`. -/
def GoodStands (ws : List EventWord) (v t : State) : Prop :=
  v.temperatureX10 = t.temperatureX10 ∧ v.humidityX10 = t.humidityX10 ∧ runWords ws v = .next t ∧
    (∀ x ∈ ws, keepsFlag x = true) ∧
    ∀ (xs ys : List EventWord) (x : EventWord) (y z : State), ws = xs ++ x :: ys → runWords xs v = .next y →
      present x y = .next z → completes x y → z.status ≠ .good

/-- Some word of `ws` completes a frame Good, and this Good stands at the end. -/
def LatestGood (ws : List EventWord) (s t : State) : Prop :=
  ∃ (before after : List EventWord) (w : EventWord) (u v : State),
    ws = before ++ w :: after ∧ runWords before s = .next u ∧ completes w u ∧ present w u = .next v ∧
      v.status = .good ∧ GoodStands after v t

theorem GoodStands.nil (s : State) : GoodStands [] s s :=
  ⟨rfl, rfl, rfl, by simp, by simp⟩

theorem GoodStands.cons {w : EventWord} {ws : List EventWord} {s u t : State} (h : GoodStands ws u t)
    (hw : present w s = .next u) (ht : u.temperatureX10 = s.temperatureX10) (hh : u.humidityX10 = s.humidityX10)
    (hk : keepsFlag w = true) (hbad : completes w s → u.status ≠ .good) : GoodStands (w :: ws) s t := by
  obtain ⟨htemp, hhum, hrun, hkeep, hlater⟩ := h
  refine ⟨ht ▸ htemp, hh ▸ hhum, (runWords_cons_next w ws s u hw).trans hrun,
    List.forall_mem_cons.2 ⟨hk, hkeep⟩, ?_⟩
  intro xs ys x y z hsplit hrunxs hx hc
  cases xs with
  | nil =>
    obtain ⟨rfl, -⟩ := List.cons.inj hsplit
    cases hrunxs
    cases hw.symm.trans hx
    exact hbad hc
  | cons x' xs =>
    obtain ⟨rfl, hrest⟩ := List.cons.inj hsplit
    exact hlater xs ys x y z hrest ((runWords_cons_next w xs s u hw).symm.trans hrunxs) hx hc

theorem LatestGood.cons {w : EventWord} {ws : List EventWord} {s u t : State} (h : LatestGood ws u t)
    (hw : present w s = .next u) : LatestGood (w :: ws) s t := by
  obtain ⟨before, after, x, y, v, rfl, hbefore, hrest⟩ := h
  exact ⟨w :: before, after, x, y, v, rfl, (runWords_cons_next w before s u hw).trans hbefore, hrest⟩

/-- With the flag set at the end, either a Good of the sequence stands, or the flag was set at the start and nothing since
touched it. The induction over the words meets both values of the flag, so the start is not assumed clear here. -/
theorem latestGood_or_goodStands (ws : List EventWord) (s t : State) (hfoi : s.params.flagOnInvalid = false)
    (hrun : runWords ws s = .next t) (ht : t.newData = true) :
    LatestGood ws s t ∨ s.newData = true ∧ GoodStands ws s t := by
  induction ws generalizing s with
  | nil =>
    cases hrun
    exact .inr ⟨ht, .nil _⟩
  | cons w ws ih =>
    obtain ⟨u, hw, hrest⟩ := runWords_cons_inv hrun
    have hparams : u.params = s.params := (presentStep_of_next hw).params
    rcases ih u (hparams ▸ hfoi) hrest with hlatest | ⟨hu, hstands⟩
    · exact .inl (hlatest.cons hw)
    · cases resultStep_of_next hw with
      | good c hc hr ho =>
        obtain ⟨hstatus, -⟩ := (u.observe_eq_iff _).1 ho
        exact .inl ⟨[], ws, w, s, u, rfl, rfl, hc, hw, hstatus, hstands⟩
      | failed st hc hst ho =>
        obtain ⟨hstatus, htemp, hhum, hflag⟩ := (u.observe_eq_iff _).1 ho
        have hbad : u.status ≠ .good := by rcases hst with rfl | rfl <;> simp [hstatus]
        have hs : s.newData = true := by simpa [hflag, hfoi] using hu
        exact .inr ⟨hs, hstands.cons hw htemp hhum (keepsFlag_of_completes hc) fun _ => hbad⟩
      | keep hn hk ho =>
        obtain ⟨-, htemp, hhum, hflag⟩ := (u.observe_eq_iff _).1 ho
        exact .inr ⟨hflag ▸ hu, hstands.cons hw htemp hhum hk fun hc => absurd hc hn⟩
      | arm _ _ ho | reset _ _ ho =>
        obtain ⟨-, -, -, hflag⟩ := (u.observe_eq_iff _).1 ho
        simp [hflag] at hu

/-- Settles O49: the flag is clear at the start, so a Good of the sequence stands. -/
theorem flagMeansGoodSinceArm : Obligations.FlagMeansGoodSinceArm := by
  unfold Obligations.FlagMeansGoodSinceArm
  intro ws s t hfoi hclear hrun ht
  rcases latestGood_or_goodStands ws s t hfoi hrun ht with hlatest | ⟨hset, -⟩
  · obtain ⟨before, after, w, u, v, hsplit, hbefore, hc, hw, hgood, hstands⟩ := hlatest
    obtain ⟨htemp, hhum, hafter, hkeep, hlater⟩ := hstands
    exact ⟨before, after, w, u, v, hsplit, hbefore, hc, hw, hgood, htemp, hhum, hafter, hkeep, hlater⟩
  · simp [hclear] at hset

/-! ## Dead registers (R22) -/

theorem sameButDead.refl (s : State) : sameButDead s s :=
  ⟨rfl, fun _ => ⟨rfl, rfl⟩⟩

/-- Other values in the dead registers of an Idle state. -/
theorem sameButDead_of_idle {s : State} (hidle : s.inFrame = false) (b : Counter) (c : Frame) :
    sameButDead s { s with bits := b, code := c } :=
  ⟨rfl, by simp [hidle]⟩

/-- States that only dead registers tell apart are equal, or Idle. -/
theorem sameButDead.eq_or_idle {s t : State} (h : sameButDead s t) :
    t = s ∨ s.inFrame = false ∧ ∃ b c, t = { s with bits := b, code := c } := by
  obtain ⟨ht, hlive⟩ := h
  by_cases hin : s.inFrame = true
  · obtain ⟨hbits, hcode⟩ := hlive hin
    rw [hbits, hcode] at ht
    exact .inl ht
  · exact .inr ⟨eq_false_of_ne_true hin, t.bits, t.code, ht⟩

theorem sameOutcome.refl (o : Host.Outcome State Fault Refusal) : sameOutcome o o := by
  cases o with
  | next s => exact sameButDead.refl s
  | refused r => rfl
  | fault r => cases r

/-- No event faults, so outcomes that are the same both go on or are the same refusal. -/
theorem sameOutcome.cases {o p : Host.Outcome State Fault Refusal} (h : sameOutcome o p) :
    (∃ s t, o = .next s ∧ p = .next t ∧ sameButDead s t) ∨ ∃ r, o = .refused r ∧ p = .refused r := by
  cases o with
  | fault r => cases r
  | next s =>
    cases p with
    | fault r => cases r
    | next t => exact .inl ⟨s, t, rfl, rfl, h⟩
    | refused r => exact h.elim
  | refused r =>
    cases p with
    | fault r => cases r
    | next t => exact h.elim
    | refused q => exact .inr ⟨r, rfl, by rw [show r = q from h]⟩

/-- An Idle block does not read the dead registers: an EDGE is a SYNC, which overwrites them, or an IGNORE. -/
theorem present_idle_sameOutcome (w : EventWord) {s : State} (hidle : s.inFrame = false) (b : Counter) (c : Frame) :
    sameOutcome (present w s) (present w { s with bits := b, code := c }) := by
  by_cases hcfg : s.configured
  · rw [present_event w s hcfg, present_event w { s with bits := b, code := c } hcfg]
    cases hw : decodeEvent w with
    | reset x => exact sameButDead.refl s.resetBlock
    | arm x => exact sameButDead_of_idle (s := s.pend) hidle b c
    | nop x => exact sameButDead_of_idle hidle b c
    | reserved x => rfl
    | edge level tick =>
      have hclass (bits : Counter) : classify (wrapDiff s.lastTick tick) s.inFrame bits
          = if (wrapDiff s.lastTick tick).toNat > syncThreshold then .sync else .ignore :=
        hidle ▸ classify_idle _ bits
      simp only [instrOfEvent, State.edgeContext, hclass]
      split
      · exact sameButDead.refl (s.noteTick tick).openFrame
      · exact sameButDead_of_idle (s := s.noteTick tick) hidle b c
  · have hport : s.modelPort = 3#2 := not_not.1 hcfg
    rw [present_of_reservedModel w s hport, present_of_reservedModel w { s with bits := b, code := c } hport]
    rfl

theorem present_sameOutcome (w : EventWord) {s t : State} (h : sameButDead s t) :
    sameOutcome (present w s) (present w t) := by
  rcases h.eq_or_idle with rfl | ⟨hidle, b, c, rfl⟩
  · exact .refl _
  · exact present_idle_sameOutcome w hidle b c

/-- Sequences of words keep the relation (R38: one atomic step each). -/
theorem runWords_sameOutcome (ws : List EventWord) {s t : State} (h : sameButDead s t) :
    sameOutcome (runWords ws s) (runWords ws t) := by
  induction ws generalizing s t with
  | nil => exact h
  | cons w ws ih =>
    rcases (present_sameOutcome w h).cases with ⟨u, v, hu, hv, huv⟩ | ⟨r, hs, ht⟩
    · rw [runWords_cons_next w ws s u hu, runWords_cons_next w ws t v hv]
      exact ih huv
    · simp only [runWords, hs, ht]
      rfl

/-- The ports and the observation show no dead register. -/
theorem sameButDead.outputs_observe {s t : State} (h : sameButDead s t) :
    s.outputs = t.outputs ∧ s.observe = t.observe := by
  obtain ⟨ht, -⟩ := h
  rw [ht]
  exact ⟨rfl, rfl⟩

/-- Settles O47: `sameButDead` is kept by every sequence, and shows on no port. -/
theorem deadRegistersUnobservable : Obligations.DeadRegistersUnobservable := by
  unfold Obligations.DeadRegistersUnobservable
  intro ws s t hidle ht
  have hrel : sameButDead s t := ⟨ht, by simp [hidle]⟩
  have hout := runWords_sameOutcome ws hrel
  refine ⟨hout, fun s' t' hs' ht' => ?_⟩
  rw [hs', ht'] at hout
  exact sameButDead.outputs_observe hout

end Sys2Proof.Machine

/-! ## The bytes of a frame (R33) -/

namespace Sys2Proof.Machine

/-- The bytes in the opposite order. -/
def FrameBytes.reverse (b : FrameBytes) : FrameBytes := ⟨b.b4, b.b3, b.b2, b.b1, b.b0⟩

theorem frameBytes_false (f : Frame) : frameBytes false f = (frameBytes true f).reverse := rfl

theorem frameOfBytes_false (b : FrameBytes) : frameOfBytes false b = frameOfBytes true b.reverse := rfl

/-- A field and the byte below it are one field. -/
theorem extractLsb'_append_byte (f : Frame) (start n : Nat) :
    f.extractLsb' (start + 8) n ++ f.extractLsb' start 8 = f.extractLsb' start (n + 8) :=
  BitVec.extractLsb'_append_extractLsb'_eq_extractLsb' rfl

/-- Adjacent fields join to one field, in the end to the whole frame. -/
theorem frameOfBytes_frameBytes_msb (f : Frame) : frameOfBytes true (frameBytes true f) = f := by
  change f.extractLsb' 32 8 ++ f.extractLsb' 24 8 ++ f.extractLsb' 16 8 ++ f.extractLsb' 8 8 ++ f.extractLsb' 0 8 = f
  rw [extractLsb'_append_byte f 24 8, extractLsb'_append_byte f 16 (8 + 8), extractLsb'_append_byte f 8 (8 + 8 + 8),
    extractLsb'_append_byte f 0 (8 + 8 + 8 + 8)]
  exact BitVec.extractLsb'_eq_self

/-- Above the lowest byte a field of the joined bytes is a field of the upper ones. -/
theorem frameBytes_frameOfBytes_msb (b : FrameBytes) : frameBytes true (frameOfBytes true b) = b := by
  obtain ⟨b0, b1, b2, b3, b4⟩ := b
  let joined : BitVec (8 + 8 + 8 + 8 + 8) := b0 ++ b1 ++ b2 ++ b3 ++ b4
  change FrameBytes.mk (BitVec.extractLsb' 32 8 joined) (BitVec.extractLsb' 24 8 joined)
    (BitVec.extractLsb' 16 8 joined) (BitVec.extractLsb' 8 8 joined) (BitVec.extractLsb' 0 8 joined) = _
  simp only [joined, BitVec.extractLsb'_append_eq_of_le, BitVec.extractLsb'_append_eq_right, Nat.reduceLeDiff, Nat.reduceSub,
    le_refl, BitVec.extractLsb'_eq_self]

theorem frameOfBytes_frameBytes (b0AtMsb : Bool) (f : Frame) : frameOfBytes b0AtMsb (frameBytes b0AtMsb f) = f := by
  cases b0AtMsb with
  | true => exact frameOfBytes_frameBytes_msb f
  | false =>
    rw [frameBytes_false, frameOfBytes_false]
    exact frameOfBytes_frameBytes_msb f

theorem frameBytes_frameOfBytes (b0AtMsb : Bool) (b : FrameBytes) : frameBytes b0AtMsb (frameOfBytes b0AtMsb b) = b := by
  cases b0AtMsb with
  | true => exact frameBytes_frameOfBytes_msb b
  | false =>
    rw [frameBytes_false, frameOfBytes_false, frameBytes_frameOfBytes_msb]
    rfl

/-- Settles O18: the fields are those of `frameBytes`, and `frameOfBytes` is its inverse from either end. -/
theorem frameBytesFromEitherEnd : Obligations.FrameBytesFromEitherEnd := by
  unfold Obligations.FrameBytesFromEitherEnd
  intro f
  exact ⟨rfl, rfl, fun b0AtMsb => frameOfBytes_frameBytes b0AtMsb f, frameBytes_frameOfBytes⟩

/-! ## What no event writes: the model input and the words to come (R19, R38, R41) -/

/-- Another code on the model port and other words to come. -/
def State.mapInputs (f : Code2 → Code2) (g : List EventWord → List EventWord) (s : State) : State :=
  { s with modelPort := f s.modelPort, events := g s.events }

theorem dataEdge_eq_ite (bit : Bool) (tick : Tick) (s : State) :
    dataEdge bit tick s
      = if s.bits + 1 = frameBitCount then completeFrame (afterData bit tick s) else .next (afterData bit tick s) := by
  simp [dataEdge, afterData, State.frameComplete]

section
variable {f : Code2 → Code2} {g : List EventWord → List EventWord} {s t : State}

theorem afterData_mapInputs (bit : Bool) (tick : Tick) :
    afterData bit tick (s.mapInputs f g) = (afterData bit tick s).mapInputs f g := rfl

theorem validate_mapInputs (m : SensorModel) (c : Frame) :
    validate m c (s.mapInputs f g) = (validate m c s).mapInputs f g :=
  validate_comm (State.mapInputs f g) (fun _ => rfl) (fun _ _ _ => rfl) (fun _ _ => rfl) m c s

/-- Completion reads the model port. -/
theorem completeFrame_mapInputs (hport : f s.modelPort = s.modelPort) (h : completeFrame s = .next t) :
    completeFrame (s.mapInputs f g) = .next (t.mapInputs f g) := by
  cases hm : s.sensorModel with
  | none =>
    rw [completeFrame_none s hm] at h
    cases h
  | some m =>
    rw [completeFrame_some s m hm] at h
    cases h
    have hm' : (s.mapInputs f g).sensorModel = some m := (congrArg SensorModel.ofCode hport).trans hm
    rw [completeFrame_some _ m hm', validate_mapInputs]
    rfl

/-- A data edge reads the model port only when it is the 40th. -/
theorem dataEdge_mapInputs {bit : Bool} {tick : Tick} (hport : s.bits + 1 = frameBitCount → f s.modelPort = s.modelPort)
    (h : dataEdge bit tick s = .next t) : dataEdge bit tick (s.mapInputs f g) = .next (t.mapInputs f g) := by
  have hbits : (s.mapInputs f g).bits = s.bits := rfl
  rw [dataEdge_eq_ite] at h ⊢
  rw [hbits, afterData_mapInputs]
  split at h
  · next hlast =>
    rw [if_pos hlast]
    exact completeFrame_mapInputs (hport hlast) h
  · next hmore =>
    rw [if_neg hmore]
    cases h
    rfl

/-- An instruction writes neither input, and only one that completes a frame reads the model port. -/
theorem exec_mapInputs {i : Instr}
    (hport : (s.bits + 1 = frameBitCount ∧ ∃ level tick, i = .edgeBit0 level tick ∨ i = .edgeBit1 level tick) →
      f s.modelPort = s.modelPort)
    (h : exec i s = .next t) : exec i (s.mapInputs f g) = .next (t.mapInputs f g) := by
  cases i with
  | edgeBit0 level tick => exact dataEdge_mapInputs (fun hlast => hport ⟨hlast, level, tick, .inl rfl⟩) h
  | edgeBit1 level tick => exact dataEdge_mapInputs (fun hlast => hport ⟨hlast, level, tick, .inr rfl⟩) h
  | validateDht11 c | validateDhtxx c | validateAuto c =>
    cases h
    exact congrArg _ (validate_mapInputs _ c)
  | reservedArmEdge x => cases h
  | _ =>
    cases h
    rfl

/-- The same of a presented word, as long as the configuration stays legal. -/
theorem present_mapInputs {w : EventWord} (hcfg : (s.mapInputs f g).configured)
    (hport : completes w s → f s.modelPort = s.modelPort) (h : present w s = .next t) :
    present w (s.mapInputs f g) = .next (t.mapInputs f g) := by
  obtain ⟨hs, -⟩ := present_next_cases w s t h
  rw [present_of_configured w s hs] at h
  rw [present_of_configured w _ hcfg]
  exact exec_mapInputs hport h

end

/-- Settles O37: the event completes no frame, so only the port's legality matters. -/
theorem modelReadOnlyAtCompletion : Obligations.ModelReadOnlyAtCompletion := by
  unfold Obligations.ModelReadOnlyAtCompletion
  intro w p s t hp hmore h
  exact present_mapInputs (f := fun _ => p) (g := id) hp (fun hc => absurd hc hmore) h

/-! ## Steps consume the listed words (R38, R101) -/

/-- The words to come make no difference to a presented word. -/
theorem present_withEvents {w : EventWord} {s t : State} (ws : List EventWord) (h : present w s = .next t) :
    present w { s with events := ws } = .next { t with events := ws } := by
  obtain ⟨hcfg, -⟩ := present_next_cases w s t h
  exact present_mapInputs (f := id) (g := fun _ => ws) hcfg (fun _ => rfl) h

theorem run_succ_of_step {n : Nat} {s t : State} (h : step s = .next t) :
    Host.Core.run Sys2Proof.core (n + 1) s = Host.Core.run Sys2Proof.core n t := by
  have hcore : Sys2Proof.core.step s = .next t := h
  simp only [Host.Core.run, hcore]

/-- Settles O51, by induction on the words: each step takes one off the list and presents it. -/
theorem stepsConsumeWords : Obligations.StepsConsumeWords := by
  unfold Obligations.StepsConsumeWords
  intro ws rest s t h
  induction ws generalizing s with
  | nil =>
    cases h
    rfl
  | cons w ws ih =>
    obtain ⟨u, hw, hrest⟩ := runWords_cons_inv h
    have hpresent := present_withEvents (ws ++ rest) hw
    have hstep : step { s with events := w :: (ws ++ rest) } = .next { u with events := ws ++ rest } :=
      (step_cons _ w (ws ++ rest) rfl).trans hpresent
    exact (run_succ_of_step hstep).trans (ih u hrest)

/-- With no word listed a step presents the all-zero word. -/
theorem step_nil {s : State} (h : s.events = []) : step s = present 0 s := by
  rw [step, State.fetch_word_nil s h, State.fetch_state_nil s h]

/-- The all-zero word is a NOP (R44). -/
theorem decode_zero (ctx : EdgeContext) : decode ctx (.event 0) = .nop 0 := rfl

/-- Settles O34: a step is one presented word, which a configured block decodes and runs. -/
theorem stepRunsDecodedWord : Obligations.StepRunsDecodedWord := by
  unfold Obligations.StepRunsDecodedWord
  intro s hcfg
  refine ⟨fun w rest hevents => ?_, fun hevents => ?_⟩
  · exact (step_cons s w rest hevents).trans (present_of_configured w { s with events := rest } hcfg)
  · have hstep : step s = exec (decode s.edgeContext (.event 0)) s :=
      (step_nil hevents).trans (present_of_configured 0 s hcfg)
    refine ⟨hstep, ?_⟩
    rw [hstep, decode_zero]
    rfl

end Sys2Proof.Machine

/-! ## The strobes of an event word (R43, R44) -/

namespace Sys2Proof

/-- Masking the high field of a word and comparing it is reading the field. -/
theorem and_highMask_eq_iff {n k : Nat} (w : BitVec (n + k)) (a : BitVec n) :
    w &&& (BitVec.allOnes n ++ 0#k) = a ++ 0#k ↔ w.extractLsb' k n = a := by
  conv_lhs => rw [← BitVec.extractLsb'_append_extractLsb' (x := w)]
  simp only [BitVec.and_append, BitVec.and_allOnes, BitVec.and_zero, BitVec.append_left_inj]

/-- The strobes E[35:33]: rst, arm, edge_valid. -/
def strobes (w : EventWord) : BitVec 3 := w.extractLsb' 33 3

theorem strobes_eq_iff (w : EventWord) (a : BitVec 3) : strobes w = a ↔
    w.getLsbD 35 = a.getLsbD 2 ∧ w.getLsbD 34 = a.getLsbD 1 ∧ w.getLsbD 33 = a.getLsbD 0 := by
  constructor
  · rintro rfl
    simp [strobes]
  · rintro ⟨hrst, harm, hedge⟩
    apply BitVec.eq_of_getLsbD_eq
    intro i hi
    interval_cases i <;> simp_all [strobes]

theorem rst_of_strobes {w : EventWord} {a : BitVec 3} (h : strobes w = a) : w.getLsbD 35 = a.getLsbD 2 :=
  ((strobes_eq_iff w a).1 h).1

/-- With rst set the strobes are none of the four values that select the other events. -/
theorem strobes_ne_of_rst {w : EventWord} (rst : w.getLsbD 35 = true) {a : BitVec 3} (ha : a.getLsbD 2 = false) :
    strobes w ≠ a := by
  intro h
  rw [rst_of_strobes h, ha] at rst
  cases rst

/-- The mask 0xE00000000 of the opcode table selects the strobes. -/
theorem and_strobeMask_eq_iff (w : EventWord) (a : BitVec 3) :
    w &&& 0xE00000000#36 = a ++ 0#33 ↔ strobes w = a :=
  and_highMask_eq_iff (n := 3) (k := 33) w a

theorem reservedMask_iff (w : EventWord) : w &&& 0xE00000000#36 = 0x600000000#36 ↔ strobes w = 0b011#3 :=
  and_strobeMask_eq_iff w 0b011#3

/-- The rst strobe as the one-bit field above the 35 bits that RESET ignores. -/
theorem rstField_eq_one_iff (w : EventWord) : w.extractLsb' 35 1 = 1#1 ↔ w.getLsbD 35 = true := by
  have hone : ∀ a : BitVec 1, a = 1#1 ↔ a.getLsbD 0 = true := by decide
  simp [hone]

/-- The mask 0x800000000 of the RESET row selects rst. -/
theorem and_rstMask_eq_iff (w : EventWord) :
    w &&& 0x800000000#36 = 0x800000000#36 ↔ w.getLsbD 35 = true :=
  (and_highMask_eq_iff (n := 1) (k := 35) w 1#1).trans (rstField_eq_one_iff w)

/-- The rows of the event table (R44): the strobes that select each event, and the fields it carries. -/
inductive EventRow (w : EventWord) : Event → Prop
  | reset (rst : w.getLsbD 35 = true) : EventRow w (.reset (w.extractLsb' 0 35))
  | arm (h : strobes w = 0b010#3) : EventRow w (.arm (w.extractLsb' 0 33))
  | nop (h : strobes w = 0b000#3) : EventRow w (.nop (w.extractLsb' 0 33))
  | edge (h : strobes w = 0b001#3) : EventRow w (.edge (w.extractLsb' 32 1) (w.extractLsb' 0 32))
  | reserved (h : strobes w = 0b011#3) : EventRow w (.reserved (w.extractLsb' 0 33))

theorem eventRow_decodeEvent (w : EventWord) : EventRow w (decodeEvent w) := by
  unfold decodeEvent
  split
  next hrst => exact .reset hrst
  next hrst harm hedge => exact .arm ((strobes_eq_iff w _).2 ⟨hrst, harm, hedge⟩)
  next hrst harm hedge => exact .edge ((strobes_eq_iff w _).2 ⟨hrst, harm, hedge⟩)
  next hrst harm hedge => exact .nop ((strobes_eq_iff w _).2 ⟨hrst, harm, hedge⟩)
  next hrst harm hedge => exact .reserved ((strobes_eq_iff w _).2 ⟨hrst, harm, hedge⟩)

/-- The low field below known strobes gives the word back. -/
theorem word_of_strobes {w : EventWord} {a : BitVec 3} (h : strobes w = a) : a ++ w.extractLsb' 0 33 = w := by
  subst h
  exact BitVec.extractLsb'_append_extractLsb' (w := 3) (len := 33)

/-- The same of an EDGE word, whose level and tick are fields of their own. -/
theorem edgeWord_of_strobes {w : EventWord} {a : BitVec 3} (h : strobes w = a) :
    a ++ w.extractLsb' 32 1 ++ w.extractLsb' 0 32 = w := by
  subst h
  have hupper : strobes w ++ w.extractLsb' 32 1 = w.extractLsb' 32 4 :=
    BitVec.extractLsb'_append_extractLsb'_eq_extractLsb' rfl
  rw [hupper]
  exact BitVec.extractLsb'_append_extractLsb' (w := 4) (len := 32)

/-- The encoder gives each word back from the event it decodes to, ignored bits included. -/
theorem encodeEvent_decodeEvent (w : EventWord) : encodeEvent (decodeEvent w) = w := by
  have hrow := eventRow_decodeEvent w
  generalize decodeEvent w = e at hrow ⊢
  cases hrow with
  | reset rst =>
    simp only [encodeEvent, BitVec.setWidth_eq, ← (rstField_eq_one_iff w).2 rst]
    exact BitVec.extractLsb'_append_extractLsb' (w := 1) (len := 35)
  | arm h | nop h | reserved h => exact (BitVec.setWidth_eq _).trans (word_of_strobes h)
  | edge h => exact (BitVec.setWidth_eq _).trans (edgeWord_of_strobes h)

/-! ## The class of an edge (R47) -/

/-- The ordered tests give a class exactly when its row's condition holds. -/
theorem classify_eq_iff (c : EdgeClass) (interval : Tick) (inFrame : Bool) (bits : Counter) :
    classify interval inFrame bits = c ↔ c.condition interval inFrame bits = true :=
  ⟨condition_of_classify, classify_of_condition c interval inFrame bits⟩

/-- Settles O3, by the two halves of the correspondence. -/
theorem classIsItsRowsCondition : Obligations.ClassIsItsRowsCondition := by
  unfold Obligations.ClassIsItsRowsCondition
  exact classify_eq_iff

theorem edgeInstr_inj (c d : EdgeClass) (level : BitVec 1) (tick : Tick) :
    edgeInstr c level tick = edgeInstr d level tick ↔ c = d := by
  cases c <;> cases d <;> simp [edgeInstr]

/-! ## Decode and encode agree (R43 to R47, R59) -/

/-- The word of an edge decodes to the class whose condition holds in the context. -/
theorem decode_edge_eq_iff (c : EdgeClass) (ctx : EdgeContext) (level : BitVec 1) (tick : Tick) :
    decode ctx (.event (encodeEvent (.edge level tick))) = edgeInstr c level tick ↔ c.fits ctx tick = true := by
  rw [decode_edge, edgeInstr_inj]
  exact classify_eq_iff c _ _ _

/-- Settles O5: an EDGE word decodes to the class whose condition holds, any other word to its own instruction. -/
theorem decodeEncodeAgree : Obligations.DecodeEncodeAgree := by
  unfold Obligations.DecodeEncodeAgree
  intro ctx i
  cases i with
  | edgeSync level tick => exact decode_edge_eq_iff .sync ctx level tick
  | edgeIgnore level tick => exact decode_edge_eq_iff .ignore ctx level tick
  | edgeSkip level tick => exact decode_edge_eq_iff .skip ctx level tick
  | edgeBit0 level tick => exact decode_edge_eq_iff .bit0 ctx level tick
  | edgeBit1 level tick => exact decode_edge_eq_iff .bit1 ctx level tick
  | edgeViol level tick => exact decode_edge_eq_iff .viol ctx level tick
  | reset x => exact ⟨fun _ => rfl, Laws.RoundTrip.reset x ctx⟩
  | arm x => exact ⟨fun _ => rfl, Laws.RoundTrip.arm x ctx⟩
  | nop x => exact ⟨fun _ => rfl, Laws.RoundTrip.nop x ctx⟩
  | reservedArmEdge x => exact ⟨fun _ => rfl, Laws.RoundTrip.reservedArmEdge x ctx⟩
  | validateDht11 f => exact ⟨fun _ => rfl, Laws.RoundTrip.validateDht11 f ctx⟩
  | validateDhtxx f => exact ⟨fun _ => rfl, Laws.RoundTrip.validateDhtxx f ctx⟩
  | validateAuto f => exact ⟨fun _ => rfl, Laws.RoundTrip.validateAuto f ctx⟩

theorem encode_edgeInstr (c : EdgeClass) (level : BitVec 1) (tick : Tick) :
    encode (edgeInstr c level tick) = .event (encodeEvent (.edge level tick)) := by
  cases c <;> rfl

/-- The word of an event's instruction is the word of the event, whatever the context. -/
theorem encode_instrOfEvent (ctx : EdgeContext) (e : Event) : encode (instrOfEvent ctx e) = .event (encodeEvent e) := by
  cases e with
  | edge level tick => exact encode_edgeInstr _ level tick
  | _ => rfl

theorem encode_decode (ctx : EdgeContext) (e : Encoded) : encode (decode ctx e) = e := by
  cases e with
  | event w => rw [decode, encode_instrOfEvent, encodeEvent_decodeEvent]
  | frame m f => cases m <;> rfl

/-- Settles O6: the decoded instruction has the decoded word, so it is read back from it, which only a well-formed one is. -/
theorem encodeDecodeAgree : Obligations.EncodeDecodeAgree := by
  unfold Obligations.EncodeDecodeAgree
  intro ctx e
  have hword := encode_decode ctx e
  exact ⟨hword, (decodeEncodeAgree ctx _).1 (congrArg (decode ctx) hword)⟩

end Sys2Proof

namespace Sys2Proof.Machine

/-! ## Written-out words, enumeration codes and ports (R42, R44, R51, R52, R57) -/

/-- Settles O1: the words are written out, and the decoder evaluates. -/
theorem tableWordsDecode : Obligations.TableWordsDecode := by
  unfold Obligations.TableWordsDecode
  decide

/-- Settles O7, by the finitely many codes. -/
theorem enumCodes : Obligations.EnumCodes := by
  unfold Obligations.EnumCodes
  refine ⟨by decide, by decide, fun st => ?_, by decide⟩
  cases st <;> rfl

theorem ofBool_eq_one_iff (b : Bool) : BitVec.ofBool b = 1 ↔ b = true := by
  cases b <;> decide

/-- Settles O33: the ports are fields of the state, the two one-bit ports as `BitVec.ofBool`. -/
theorem outputsShowState : Obligations.OutputsShowState := by
  unfold Obligations.OutputsShowState
  intro s
  exact ⟨rfl, rfl, rfl, ofBool_eq_one_iff s.newData, ofBool_eq_one_iff s.inFrame⟩

/-! ## The strobes select the event (R44, R45) -/

/-- No class reads the level (R74). -/
theorem exec_edgeInstr_level (c : EdgeClass) (level level' : BitVec 1) (tick : Tick) (s : State) :
    exec (edgeInstr c level tick) s = exec (edgeInstr c level' tick) s := by
  cases c <;> rfl

theorem present_edge_level (level level' : BitVec 1) (tick : Tick) (s : State) :
    present (encodeEvent (.edge level tick)) s = present (encodeEvent (.edge level' tick)) s := by
  by_cases hcfg : s.configured
  · rw [present_edge level tick s hcfg, present_edge level' tick s hcfg]
    exact exec_edgeInstr_level _ level level' tick s
  · have hport : s.modelPort = 3#2 := not_not.1 hcfg
    rw [present_of_reservedModel _ s hport, present_of_reservedModel _ s hport]

/-- Settles O2: each row's mask reads the strobes of the row, and no meaning reads the ignored bits or the level. -/
theorem strobesSelectEvent : Obligations.StrobesSelectEvent := by
  unfold Obligations.StrobesSelectEvent
  refine ⟨fun w => ?_, fun s => ⟨fun _ _ => rfl, fun _ _ => rfl, fun _ _ => rfl, fun level level' tick =>
    present_edge_level level level' tick s⟩⟩
  have harm : w &&& 0xE00000000#36 = 0x400000000#36 ↔ strobes w = 0b010#3 := and_strobeMask_eq_iff w 0b010#3
  have hedge : w &&& 0xE00000000#36 = 0x200000000#36 ↔ strobes w = 0b001#3 := and_strobeMask_eq_iff w 0b001#3
  have hnop : w &&& 0xE00000000#36 = 0x000000000#36 ↔ strobes w = 0b000#3 := and_strobeMask_eq_iff w 0b000#3
  rw [and_rstMask_eq_iff, harm, hedge, hnop, reservedMask_iff]
  have hrow := eventRow_decodeEvent w
  generalize decodeEvent w = e at hrow ⊢
  cases hrow with
  | reset rst => simp [rst, strobes_ne_of_rst rst]
  | arm h | nop h | edge h | reserved h => simpa [h] using rst_of_strobes h

/-! ## What stops a step (R53, R120) -/

theorem dataEdge_next (bit : Bool) (tick : Tick) {s : State} (hcfg : s.configured) : ∃ t, dataEdge bit tick s = .next t := by
  obtain ⟨m, hm⟩ := s.sensorModel_of_configured hcfg
  rcases dataEdge_cases bit tick s with ⟨-, h⟩ | ⟨-, hnone, -⟩ | ⟨m', -, -, h⟩
  · exact ⟨_, h⟩
  · simp [hm] at hnone
  · exact ⟨_, h⟩

/-- Under a legal model only the reserved instruction has no next state. -/
theorem exec_next {i : Instr} {s : State} (hcfg : s.configured) (hi : ∀ x, i ≠ .reservedArmEdge x) :
    ∃ t, exec i s = .next t := by
  cases i with
  | edgeBit0 level tick => exact dataEdge_next false tick hcfg
  | edgeBit1 level tick => exact dataEdge_next true tick hcfg
  | reservedArmEdge x => exact absurd rfl (hi x)
  | _ => exact ⟨_, rfl⟩

theorem edgeInstr_ne_reserved (c : EdgeClass) (level : BitVec 1) (tick : Tick) (x : BitVec 33) :
    edgeInstr c level tick ≠ .reservedArmEdge x := by
  cases c <;> simp [edgeInstr]

/-- Only the reserved word decodes to the reserved instruction. -/
theorem decode_reserved_iff (ctx : EdgeContext) (w : EventWord) :
    (∃ x, decode ctx (.event w) = .reservedArmEdge x) ↔ strobes w = 0b011#3 := by
  have hrow := eventRow_decodeEvent w
  rw [decode]
  generalize decodeEvent w = e at hrow ⊢
  cases hrow with
  | reset rst => simp [instrOfEvent, strobes_ne_of_rst rst]
  | edge h => simp [instrOfEvent, edgeInstr_ne_reserved, h]
  | arm h | nop h | reserved h => simp [instrOfEvent, h]

theorem present_reserved {w : EventWord} {s : State} (hcfg : s.configured) (hw : strobes w = 0b011#3) :
    present w s = .refused .reservedArmEdge := by
  obtain ⟨x, hx⟩ := (decode_reserved_iff s.edgeContext w).2 hw
  rw [present_of_configured w s hcfg, hx]
  rfl

/-- A presented word is refused under the reserved model code, refused as the reserved word, or goes on. -/
theorem present_next_iff (w : EventWord) (s : State) :
    (∃ t, present w s = .next t) ↔ s.configured ∧ strobes w ≠ 0b011#3 := by
  constructor
  · rintro ⟨t, h⟩
    have hcfg := (present_next_cases w s t h).1
    refine ⟨hcfg, fun hw => ?_⟩
    rw [present_reserved hcfg hw] at h
    cases h
  · rintro ⟨hcfg, hw⟩
    rw [present_of_configured w s hcfg]
    exact exec_next hcfg fun x hx => hw ((decode_reserved_iff s.edgeContext w).1 ⟨x, hx⟩)

/-- Settles O35, by the word that the step presents. -/
theorem onlyReservedStops : Obligations.OnlyReservedStops := by
  unfold Obligations.OnlyReservedStops
  intro s
  cases hevents : s.events with
  | nil =>
    have hzero : strobes 0#36 ≠ 0b011#3 := by decide
    rw [step_nil hevents, present_next_iff]
    simp [State.configured, hzero]
  | cons w rest =>
    rw [step_cons s w rest hevents, present_next_iff]
    simp [State.configured, reservedMask_iff]

/-- Settles O30: the word is refused by its meaning, the model code before any event. -/
theorem reservedEncodingsRefused : Obligations.ReservedEncodingsRefused := by
  unfold Obligations.ReservedEncodingsRefused
  refine ⟨fun _ _ => rfl, fun s w rest hcfg hevents hw => ?_, fun s hport => ?_⟩
  · rw [step_cons s w rest hevents]
    exact present_reserved hcfg ((reservedMask_iff w).1 hw)
  · exact present_of_reservedModel _ _ hport

end Sys2Proof.Machine

/-! ## A frame sent by gaps (R56, R66 to R69) -/

namespace Sys2Proof.Machine

/-- The tick that a gap presents has the gap as its interval (R58, R60). -/
@[simp] theorem State.interval_gap (s : State) (n : Tick) : s.interval (s.lastTick + n) = n := by
  simp [State.interval, wrapDiff]

/-- An interval that carries a bit, in a frame and past the discard edges, is of the bit's class (R66, R67). -/
theorem classify_of_carries {bit : Bool} {n : Tick} (hn : carries bit n) {bits : Counter} (hpos : 0 ≤ bits.toInt) :
    classify n true bits = dataClass bit := by
  have hcount : 1 ≤ bits.toInt + 1 := by omega
  rw [classify_eq_iff]
  cases bit with
  | false =>
    obtain ⟨hlow, hhigh⟩ : 60 ≤ n.toNat ∧ n.toNat ≤ 100 := hn
    have hsync : n.toNat ≤ syncThreshold := hhigh.trans (by decide)
    simp [dataClass, EdgeClass.condition, hsync, hcount, hlow, hhigh]
  | true =>
    obtain ⟨hlow, hhigh⟩ : 101 ≤ n.toNat ∧ n.toNat ≤ 150 := hn
    have hsync : n.toNat ≤ syncThreshold := hhigh.trans (by decide)
    simp [dataClass, EdgeClass.condition, hsync, hcount, hlow, hhigh]

/-- A discard edge of any interval up to the threshold is a SKIP (R65). -/
theorem classify_discard {n : Tick} (hn : n.toNat ≤ 10000) {bits : Counter} (hneg : bits.toInt < 0) :
    classify n true bits = .skip := by
  have hcount : bits.toInt + 1 < 1 := by omega
  rw [classify_eq_iff]
  simp [EdgeClass.condition, hn, hcount]

theorem exec_dataClass (bit : Bool) (level : BitVec 1) (tick : Tick) (s : State) :
    exec (edgeInstr (dataClass bit) level tick) s = dataEdge bit tick s := by
  cases bit <;> rfl

/-- A gap that carries a bit is a data edge with that bit. -/
theorem present_gap_carries {bit : Bool} {n : Tick} (hn : carries bit n) {s : State} (hcfg : s.configured)
    (hin : s.inFrame = true) (hpos : 0 ≤ s.bits.toInt) :
    present (encodeEvent (.edge 1 (s.lastTick + n))) s = dataEdge bit (s.lastTick + n) s := by
  rw [present_edge _ _ s hcfg, State.interval_gap, hin, classify_of_carries hn hpos, exec_dataClass]

theorem present_gap_discard {n : Tick} (hn : n.toNat ≤ 10000) {s : State} (hcfg : s.configured)
    (hin : s.inFrame = true) (hneg : s.bits.toInt < 0) :
    present (encodeEvent (.edge 1 (s.lastTick + n))) s = .next (s.noteTick (s.lastTick + n)).countEdge := by
  rw [present_edge _ _ s hcfg, State.interval_gap, hin, classify_discard hn hneg]
  rfl

theorem present_gap_sync {n : Tick} (hn : 10000 < n.toNat) {s : State} (hcfg : s.configured) :
    present (encodeEvent (.edge 1 (s.lastTick + n))) s = .next (s.noteTick (s.lastTick + n)).openFrame := by
  have hclass : classify n s.inFrame s.bits = .sync := (classify_eq_iff ..).2 (decide_eq_true hn)
  rw [present_edge _ _ s hcfg, State.interval_gap, hclass]
  rfl

/-- The state after VALIDATE of a frame that a sequence of edges completed, the last of them at `tick` (R69). -/
def State.delivered (m : SensorModel) (f : Frame) (tick : Tick) (s : State) : State :=
  validate m f { s with lastTick := tick, inFrame := false, bits := 40, code := f }

/-- The 40th data edge shifts the last bit in and delivers the frame. -/
theorem dataEdge_last {bit : Bool} {tick : Tick} {s : State} {m : SensorModel} (hm : s.sensorModel = some m)
    (hlast : s.bits + 1 = frameBitCount) :
    dataEdge bit tick s = .next (s.delivered m (afterData bit tick s).code tick) := by
  rcases dataEdge_cases bit tick s with ⟨hmore, -⟩ | ⟨-, hnone, -⟩ | ⟨m', -, hm', h⟩
  · exact absurd hlast hmore
  · simp [hm] at hnone
  · obtain rfl : m = m' := Option.some.inj (hm.symm.trans hm')
    have hstate : (afterData bit tick s).leaveFrame
        = { s with lastTick := tick, inFrame := false, bits := 40, code := (afterData bit tick s).code } := by
      rw [← show s.bits + 1 = 40 from hlast]
      rfl
    rw [h, ← validate_leaveFrame, hstate]
    rfl

theorem dataEdge_more {bit : Bool} {tick : Tick} {s : State} (hmore : s.bits + 1 ≠ frameBitCount) :
    dataEdge bit tick s = .next (afterData bit tick s) := by
  rw [dataEdge_eq_ite, if_neg hmore]

/-- The shift register appends a bit at its low end (R70). -/
theorem afterData_code (bit : Bool) (tick : Tick) (s : State) : (afterData bit tick s).code = s.code.shiftConcat bit := by
  apply BitVec.eq_of_toNat_eq
  rw [BitVec.toNat_shiftConcat]
  cases bit <;> simp [afterData]

/-- Data edges up to the 40th, as many bits as the frame still wants: the block shifts them in and delivers the frame. -/
theorem runWords_dataGaps {m : SensorModel} {bs : List Bool} {ns : List Tick} (hcarry : List.Forall₂ carries bs ns)
    {s : State} (hm : s.sensorModel = some m) (hin : s.inFrame = true) (hpos : 0 ≤ s.bits.toInt)
    (hcount : s.bits.toInt + bs.length = 40) (hne : bs ≠ []) :
    runWords (gaps s.lastTick ns) s
      = .next (s.delivered m (bs.foldl BitVec.shiftConcat s.code) (ns.foldl (· + ·) s.lastTick)) := by
  induction hcarry generalizing s with
  | nil => exact absurd rfl hne
  | @cons b n bs ns hn hcarry ih =>
    have hedge := present_gap_carries hn (s.configured_of_sensorModel m hm) hin hpos
    have hleft : s.bits.toInt + bs.length = 39 := by
      rw [List.length_cons] at hcount
      omega
    have hlast : s.bits + 1 = frameBitCount ↔ bs.length = 0 := by
      rw [counter_add_one_eq_40_iff s.bits (by omega)]
      omega
    cases hcarry with
    | nil =>
      rw [dataEdge_last hm (hlast.2 rfl), afterData_code] at hedge
      exact runWords_cons_next _ [] s _ hedge
    | @cons b' n' bs ns hn' hcarry =>
      rw [dataEdge_more (hlast.not.2 (by simp))] at hedge
      have hbits : (afterData b (s.lastTick + n) s).bits.toInt = s.bits.toInt + 1 := counter_succ_toInt s.bits (by omega)
      have hrest := ih (s := afterData b (s.lastTick + n) s) hm hin (by omega) (by omega) (List.cons_ne_nil _ _)
      rw [afterData_code] at hrest
      exact (runWords_cons_next _ _ s _ hedge).trans hrest

/-- The bits of a frame in the order they are sent, shifted into an empty register, are its upper bits, in the end all. -/
theorem foldl_shiftConcat_range (f : Frame) (n : Nat) (hn : n ≤ 40) :
    ((List.range n).map fun i => f.getLsbD (39 - i)).foldl BitVec.shiftConcat 0 = f >>> (40 - n) := by
  induction n with
  | zero => exact (BitVec.ushiftRight_eq_zero le_rfl).symm
  | succ n ih =>
    have hshift := BitVec.shiftRight_sub_one_eq_shiftConcat f (wn := 40 - n) (by omega)
    have hnext : 40 - n - 1 = 40 - (n + 1) := by omega
    have hbit : 40 - n - 1 = 39 - n := by omega
    rw [List.range_succ, List.map_append, List.foldl_append, ih (by omega), ← hnext, hshift, hbit]
    rfl

theorem foldl_shiftConcat_frameBits (f : Frame) : (frameBits f).foldl BitVec.shiftConcat 0 = f := by
  simpa [frameBits] using foldl_shiftConcat_range f 40 le_rfl

theorem gaps_length (t : Tick) (ns : List Tick) : (gaps t ns).length = ns.length := by
  induction ns generalizing t with
  | nil => rfl
  | cons n ns ih => exact congrArg (· + 1) (ih (t + n))

/-- A sync and two discard edges: the block is in a frame, at its first data bit, with an empty register. -/
def State.atFirstBit (tick : Tick) (s : State) : State :=
  { s with lastTick := tick, inFrame := true, bits := 0, code := 0 }

/-- What precedes the data edges of a frame (R56): whatever the state was, the sync empties the register and the discard
edges count to 0. -/
theorem runWords_header {sync k1 k2 : Tick} (hsync : 10000 < sync.toNat) (hk1 : k1.toNat ≤ 10000) (hk2 : k2.toNat ≤ 10000)
    {s : State} (hcfg : s.configured) (ns : List Tick) :
    runWords (gaps s.lastTick (sync :: k1 :: k2 :: ns)) s
      = runWords (gaps (s.lastTick + sync + k1 + k2) ns) (s.atFirstBit (s.lastTick + sync + k1 + k2)) := by
  let opened := (s.noteTick (s.lastTick + sync)).openFrame
  let skipped := (opened.noteTick (s.lastTick + sync + k1)).countEdge
  have hopen : present _ s = .next opened := present_gap_sync hsync hcfg
  have hskip1 : present _ opened = .next skipped :=
    present_gap_discard hk1 hcfg rfl (by decide : bitsAfterSync.toInt < 0)
  have hskip2 := present_gap_discard (s := skipped) hk2 hcfg rfl (by decide : (bitsAfterSync + 1).toInt < 0)
  have hfirst : (skipped.noteTick (skipped.lastTick + k2)).countEdge = s.atFirstBit (s.lastTick + sync + k1 + k2) := by
    have hzero : bitsAfterSync + 1 + 1 = 0 := by decide
    simp only [State.atFirstBit, ← hzero]
    rfl
  rw [hfirst] at hskip2
  exact (runWords_cons_next _ _ _ _ hopen).trans
    ((runWords_cons_next _ _ _ _ hskip1).trans (runWords_cons_next _ _ _ _ hskip2))

/-- Settles O48: after the header the register is empty, and the forty data edges shift in exactly the frame. -/
theorem sentFrameIsValidated : Obligations.SentFrameIsValidated := by
  unfold Obligations.SentFrameIsValidated
  intro s m f sync k1 k2 ns hm hsync hk1 hk2 hcarry
  have hbits : (frameBits f).length = 40 := by simp [frameBits]
  have hlen : ns.length = 40 := hcarry.length_eq.symm.trans hbits
  refine ⟨by simp [gaps_length, hlen], ?_⟩
  rw [runWords_header hsync hk1 hk2 (s.configured_of_sensorModel m hm)]
  generalize htick : s.lastTick + sync + k1 + k2 = tick
  have hfirst : (s.atFirstBit tick).bits.toInt = 0 := BitVec.toInt_zero
  have hdata := runWords_dataGaps hcarry (s := s.atFirstBit tick) hm rfl hfirst.ge (by rw [hfirst, hbits]; rfl)
    (List.ne_nil_of_length_pos (by omega))
  have hcode : (frameBits f).foldl BitVec.shiftConcat (s.atFirstBit tick).code = f := foldl_shiftConcat_frameBits f
  rw [hcode] at hdata
  subst htick
  exact hdata

/-! ## The loader -/

/-- A loaded event word is put in front. -/
theorem withFetchWord_event (s : State) (w : EventWord) : s.withFetchWord 40 w.toNat = s.pushWord w := by
  have hw := w.isLt
  have hmod : w.toNat % 2 ^ 40 = w.toNat := Nat.mod_eq_of_lt (hw.trans (by decide))
  simp only [State.withFetchWord, hmod, if_pos hw, BitVec.ofNat_toNat, BitVec.setWidth_eq]

/-- The state in which the last bit of a frame is still to come. -/
def State.beforeLastBit (f : Frame) (s : State) : State :=
  { s with inFrame := true, bits := 39, code := f >>> 1 }

/-- The interval by which the loader sends a bit. -/
def loaderInterval (bit : Bool) : Tick := if bit then 101 else 60

theorem carries_loaderInterval (bit : Bool) : carries bit (loaderInterval bit) := by
  cases bit with
  | false => exact (by decide : 60 ≤ (60#32).toNat ∧ (60#32).toNat ≤ 100)
  | true => exact (by decide : 101 ≤ (101#32).toNat ∧ (101#32).toNat ≤ 150)

/-- A loaded frame is put one bit before its end, with the edge of its last bit in front. -/
theorem withFetchWord_frame (s : State) {f : Frame} (hf : 2 ^ 36 ≤ f.toNat) :
    s.withFetchWord 40 f.toNat = (s.beforeLastBit f).pushWord
      (encodeEvent (.edge 1 (s.lastTick + loaderInterval (f.getLsbD 0)))) := by
  have hmod : f.toNat % 2 ^ 40 = f.toNat := Nat.mod_eq_of_lt f.isLt
  have hcode : BitVec.ofNat 40 (f.toNat / 2) = f >>> 1 := by
    apply BitVec.eq_of_toNat_eq
    rw [BitVec.toNat_ofNat, BitVec.toNat_ushiftRight, Nat.shiftRight_eq_div_pow]
    exact Nat.mod_eq_of_lt ((Nat.div_le_self _ _).trans_lt f.isLt)
  have hbit : f.getLsbD 0 = decide (f.toNat % 2 = 1) := by
    simp [BitVec.getLsbD, Nat.testBit_zero]
  simp only [State.withFetchWord, hmod, if_neg (not_lt.2 hf), hcode, hbit, loaderInterval, decide_eq_true_eq]
  rfl

theorem step_pushWord (s : State) (w : EventWord) : step (s.pushWord w) = present w s := by
  rw [step, State.fetch_pushWord]

/-- VALIDATE writes the same result group whatever the decoder's registers hold (R89). -/
theorem delivered_observe (m : SensorModel) (f : Frame) (tick : Tick) (s : State) :
    (s.delivered m f tick).observe = (validate m f s).observe := by
  rw [State.delivered, validate_comm (fun s => { s with lastTick := tick, inFrame := false, bits := 40, code := f })
    (fun _ => rfl) (fun _ _ _ => rfl) (fun _ _ => rfl) m f s]
  rfl

/-- Settles O58: an event word is presented as it is, a frame through the data edge that completes it. -/
theorem loadedWordRunsNext : Obligations.LoadedWordRunsNext := by
  unfold Obligations.LoadedWordRunsNext
  intro s
  refine ⟨fun w => ?_, fun f m hm hf => ?_⟩
  · rw [withFetchWord_event, step_pushWord]
  · have hcfg : (s.beforeLastBit f).configured := s.configured_of_sensorModel m hm
    have hcode : (s.beforeLastBit f).code.shiftConcat (f.getLsbD 0) = f :=
      (BitVec.shiftRight_sub_one_eq_shiftConcat f (wn := 1) (by decide)).symm
    have hedge := present_gap_carries (carries_loaderInterval (f.getLsbD 0)) hcfg rfl
      (by decide : 0 ≤ (39 : Counter).toInt)
    rw [dataEdge_last (s := s.beforeLastBit f) hm (by decide : (39 : Counter) + 1 = frameBitCount), afterData_code,
      hcode] at hedge
    refine ⟨s.delivered m f (s.lastTick + loaderInterval (f.getLsbD 0)), ?_, validate_code m f _, delivered_observe m f _ s⟩
    rw [withFetchWord_frame s hf, step_pushWord]
    exact hedge

end Sys2Proof.Machine

/-! ## The interval of an edge (R60) -/

namespace Sys2Proof

/-- As a number the interval is the difference of the ticks modulo 2^32 (R60). -/
theorem wrapDiff_toNat (a b : Tick) : ((wrapDiff a b).toNat : Int) = ((b.toNat : Int) - (a.toNat : Int)) % 2 ^ 32 := by
  have ha := a.isLt
  rw [wrapDiff, BitVec.toNat_sub]
  omega

/-- Settles O8: each property is the difference of the two ticks, reduced modulo 2^32. -/
theorem wrapDiffRecoversElapsed : Obligations.WrapDiffRecoversElapsed := by
  unfold Obligations.WrapDiffRecoversElapsed
  refine ⟨wrapDiff_toNat, by decide, BitVec.sub_self, fun a n => ?_, fun a b k hk hback => ?_⟩
  · have hdiff := wrapDiff_toNat a (BitVec.ofNat 32 (a.toNat + n))
    rw [BitVec.toNat_ofNat] at hdiff
    omega
  · have hdiff := wrapDiff_toNat a b
    have ha := a.isLt
    omega

end Sys2Proof

/-! ## The class of an interval (R47, R72) -/

namespace Sys2Proof.Machine

section
variable {n : Tick} {bits : Counter}

/-- Above the threshold the state does not matter (R63). -/
theorem classify_sync (hn : 10000 < n.toNat) (inFrame : Bool) (bits : Counter) : classify n inFrame bits = .sync :=
  (classify_eq_iff ..).2 (decide_eq_true hn)

theorem classify_ignore (hn : n.toNat ≤ 10000) (bits : Counter) : classify n false bits = .ignore := by
  rw [classify_idle, if_neg (not_lt.2 hn)]

theorem classify_bit0 (hlow : 60 ≤ n.toNat) (hhigh : n.toNat ≤ 100) (hpos : 0 ≤ bits.toInt) :
    classify n true bits = .bit0 :=
  classify_of_carries (bit := false) (And.intro hlow hhigh) hpos

theorem classify_bit1 (hlow : 101 ≤ n.toNat) (hhigh : n.toNat ≤ 150) (hpos : 0 ≤ bits.toInt) :
    classify n true bits = .bit1 :=
  classify_of_carries (bit := true) (And.intro hlow hhigh) hpos

/-- Below or above the pulse window a data edge is a violation (R68). -/
theorem classify_viol (hn : n.toNat < 60 ∨ (150 < n.toNat ∧ n.toNat ≤ 10000)) (hpos : 0 ≤ bits.toInt) :
    classify n true bits = .viol := by
  have hcount : 1 ≤ bits.toInt + 1 := by omega
  rw [classify_eq_iff]
  simp [EdgeClass.condition, hcount, hn]

end

/-- Settles O4: each interval lies in the range of its class. -/
theorem boundaryIntervals : Obligations.BoundaryIntervals := by
  unfold Obligations.BoundaryIntervals
  refine ⟨fun bits hpos => ?_, fun n bits hdiscard => ?_, fun n bits => ?_⟩
  · exact ⟨classify_viol (by decide) hpos, classify_viol (by decide) hpos,
      classify_bit0 (by decide) (by decide) hpos, classify_bit0 (by decide) (by decide) hpos,
      classify_bit1 (by decide) (by decide) hpos, classify_bit1 (by decide) (by decide) hpos,
      classify_viol (by decide) hpos, classify_viol (by decide) hpos, classify_viol (by decide) hpos,
      classify_sync (by decide) true bits, classify_sync (by decide) true bits⟩
  · split
    next hn => exact classify_discard hn (by omega)
    next hn => exact classify_sync (not_le.1 hn) true bits
  · split
    next hn => exact classify_ignore hn bits
    next hn => exact classify_sync (not_le.1 hn) false bits

/-! ## The six classes: condition and effect (R63 to R69) -/

/-- The word of an edge decodes to the instruction of its class. -/
theorem decode_edge_of_classify {s : State} {tick : Tick} {c : EdgeClass}
    (h : classify (s.interval tick) s.inFrame s.bits = c) (level : BitVec 1) :
    decode s.edgeContext (.event (encodeEvent (.edge level tick))) = edgeInstr c level tick := by
  rw [decode_of_edge (decodeEvent_encodeEvent _), h]

/-- Settles O9: the interval alone makes the class, whose writes are those of `openFrame`. -/
theorem syncStartsFrame : Obligations.SyncStartsFrame := by
  unfold Obligations.SyncStartsFrame
  intro level tick s
  exact ⟨fun hn => decode_edge_of_classify (classify_sync hn _ _) level, rfl⟩

/-- Settles O10, by the class of an idle edge. -/
theorem ignoreNotesTickOnly : Obligations.IgnoreNotesTickOnly := by
  unfold Obligations.IgnoreNotesTickOnly
  intro level tick s
  exact ⟨fun hn hidle => decode_edge_of_classify (hidle ▸ classify_ignore hn _) level, rfl⟩

/-- Settles O11, by the class of a discard edge. -/
theorem skipCountsOnly : Obligations.SkipCountsOnly := by
  unfold Obligations.SkipCountsOnly
  intro level tick s
  refine ⟨fun hn hin hdiscard => ?_, rfl⟩
  exact decode_edge_of_classify (hin ▸ classify_discard hn (by omega)) level

/-- A 0 is appended by the shift alone. -/
theorem State.shiftIn_false (s : State) : s.shiftIn false = { s with code := s.code <<< 1 } :=
  congrArg (fun c => { s with code := c }) (BitVec.add_zero (s.code <<< 1))

theorem afterData_false (tick : Tick) (s : State) :
    afterData false tick s = { s with lastTick := tick, bits := s.bits + 1, code := s.code <<< 1 } :=
  (s.noteTick tick).countEdge.shiftIn_false

theorem afterData_true (tick : Tick) (s : State) :
    afterData true tick s = { s with lastTick := tick, bits := s.bits + 1, code := s.code <<< 1 + 1 } := rfl

/-- The 40th data edge validates the shifted register and ends the frame (R69). -/
theorem dataEdge_complete {bit : Bool} {tick : Tick} {s : State} {m : SensorModel} (hm : s.sensorModel = some m)
    (hlast : s.bits + 1 = frameBitCount) :
    dataEdge bit tick s = .next (validate m (afterData bit tick s).code (afterData bit tick s)).leaveFrame := by
  rw [dataEdge_eq_ite, if_pos hlast]
  exact completeFrame_some _ m hm

/-- Settles O12: BIT0 is the data edge that appends a 0. -/
theorem bitZeroShiftsAndCompletes : Obligations.BitZeroShiftsAndCompletes := by
  unfold Obligations.BitZeroShiftsAndCompletes
  intro level tick s
  refine ⟨fun hin hpos hlow hhigh => ?_, fun hmore => ?_, fun m hlast hm => ?_⟩
  · exact decode_edge_of_classify (hin ▸ classify_bit0 hlow hhigh hpos) level
  · exact (dataEdge_more hmore).trans (by rw [afterData_false])
  · refine (dataEdge_complete hm hlast).trans ?_
    rw [afterData_false, hlast]
    rfl

/-- Settles O13: BIT1 is the data edge that appends a 1. -/
theorem bitOneShiftsAndCompletes : Obligations.BitOneShiftsAndCompletes := by
  unfold Obligations.BitOneShiftsAndCompletes
  intro level tick s
  refine ⟨fun hin hpos hlow hhigh => ?_, fun hmore => ?_, fun m hlast hm => ?_⟩
  · exact decode_edge_of_classify (hin ▸ classify_bit1 hlow hhigh hpos) level
  · exact dataEdge_more hmore
  · refine (dataEdge_complete hm hlast).trans ?_
    rw [afterData_true, hlast]
    rfl

/-- Settles O14: VIOL counts and shifts a 0 in as a data edge does, then only leaves the frame. -/
theorem violationAbandonsFrame : Obligations.ViolationAbandonsFrame := by
  unfold Obligations.ViolationAbandonsFrame
  intro level tick s
  refine ⟨fun hin hpos hn => decode_edge_of_classify (hin ▸ classify_viol hn hpos) level, ?_⟩
  exact congrArg (Host.Outcome.next ∘ State.leaveFrame) (afterData_false tick s)

/-- Settles O16: no class reads the level, and so no event does. -/
theorem levelIsNoOperand : Obligations.LevelIsNoOperand := by
  unfold Obligations.LevelIsNoOperand
  intro level level' tick s c
  exact ⟨exec_edgeInstr_level c level level' tick s, present_edge_level level level' tick s⟩

/-! ## The shift register in a frame (R23, R70) -/

/-- In a frame fewer than 40 bits have been shifted in. -/
theorem State.FrameInv.code_lt {s : State} (hs : s.FrameInv) (hin : s.inFrame = true) : s.code.toNat < 2 ^ 39 := by
  have hopen := hs.frame_open hin
  exact (hs.code_small hin).trans_le (Nat.pow_le_pow_right (by decide) (by omega))

/-- Settles O17: the top bit of the register is still 0, so the shift doubles it. -/
theorem shiftLosesNoBit : Obligations.ShiftLosesNoBit := by
  unfold Obligations.ShiftLosesNoBit
  intro s bit hs hin
  have hcode := (s.inv_iff.1 hs).1.code_lt hin
  exact ⟨Nat.testBit_lt_two_pow hcode, shiftIn_code_toNat s bit hcode⟩

/-! ## The master rule (R62) -/

/-- Step 3 of the master rule after the count: shift, then the window tests. -/
def masterShift (interval : Tick) (s : State) : State :=
  if s.bits.toInt ≥ 1 then
    let shifted : State := { s with code := s.code <<< 1 }
    if 60 ≤ interval.toNat ∧ interval.toNat ≤ 150 then
      if interval.toNat > 100 then { shifted with code := shifted.code + 1 } else shifted
    else shifted.leaveFrame
  else s

/-- Step 4 of the master rule: completion. -/
def masterComplete (m : SensorModel) (s : State) : State :=
  if s.inFrame ∧ s.bits.toInt = 40 then (validate m s.code s).leaveFrame else s

/-- The master rule as its steps. -/
theorem edgeAlgorithm_eq (m : SensorModel) (tick : Tick) (s : State) :
    edgeAlgorithm m tick s
      = if (s.interval tick).toNat > 10000 then (s.noteTick tick).openFrame
        else if s.inFrame then masterComplete m (masterShift (s.interval tick) (s.noteTick tick).countEdge)
        else s.noteTick tick := rfl

section
variable {s : State} {n : Tick}

theorem masterShift_discard (hdiscard : s.bits.toInt < 1) : masterShift n s = s :=
  if_neg (not_le.2 hdiscard)

/-- In the pulse window step 3 appends the bit that the interval carries. -/
theorem masterShift_carries {bit : Bool} (hn : carries bit n) (hdata : 1 ≤ s.bits.toInt) :
    masterShift n s = s.shiftIn bit := by
  cases bit with
  | false =>
    obtain ⟨hlow, hhigh⟩ : 60 ≤ n.toNat ∧ n.toNat ≤ 100 := hn
    rw [masterShift, if_pos hdata, if_pos ⟨hlow, by omega⟩, if_neg (not_lt.2 hhigh), State.shiftIn_false]
  | true =>
    obtain ⟨hlow, hhigh⟩ : 101 ≤ n.toNat ∧ n.toNat ≤ 150 := hn
    have hone : n.toNat > 100 := hlow
    rw [masterShift, if_pos hdata, if_pos ⟨by omega, hhigh⟩, if_pos hone]
    rfl

theorem masterShift_viol (hn : n.toNat < 60 ∨ 150 < n.toNat) (hdata : 1 ≤ s.bits.toInt) :
    masterShift n s = (s.shiftIn false).leaveFrame := by
  rw [masterShift, if_pos hdata, if_neg (by omega), State.shiftIn_false]

theorem masterComplete_of_bits_ne (m : SensorModel) (hbits : s.bits.toInt ≠ 40) : masterComplete m s = s :=
  if_neg fun h => hbits h.2

theorem masterComplete_idle (m : SensorModel) (hidle : s.inFrame = false) : masterComplete m s = s :=
  if_neg fun h => Bool.false_ne_true (hidle.symm.trans h.1)

/-- In a frame, step 4 is what a data edge does after its count and shift. -/
theorem dataEdge_eq_masterComplete {m : SensorModel} (hm : s.sensorModel = some m) (hin : s.inFrame = true) (bit : Bool)
    (tick : Tick) : dataEdge bit tick s = .next (masterComplete m (afterData bit tick s)) := by
  by_cases hlast : s.bits + 1 = frameBitCount
  · have hcount : (afterData bit tick s).bits.toInt = 40 := congrArg BitVec.toInt hlast
    rw [dataEdge_complete hm hlast, masterComplete, if_pos ⟨hin, hcount⟩]
  · have hcount : (afterData bit tick s).bits.toInt ≠ 40 := fun h => hlast (BitVec.toInt_inj.1 h)
    rw [dataEdge_more hlast, masterComplete_of_bits_ne m hcount]

/-- The ranges of the two bits fill the pulse window. -/
theorem carries_or_outside (n : Tick) : (∃ bit, carries bit n) ∨ n.toNat < 60 ∨ 150 < n.toNat := by
  rcases lt_or_ge n.toNat 60 with hlow | hlow
  · exact .inr (.inl hlow)
  · rcases lt_or_ge 150 n.toNat with hhigh | hhigh
    · exact .inr (.inr hhigh)
    · rcases lt_or_ge 100 n.toNat with hone | hzero
      · exact .inl ⟨true, hone, hhigh⟩
      · exact .inl ⟨false, hlow, hzero⟩

/-- An edge in a frame by its class is steps 3 and 4 of the master rule. -/
theorem present_edge_inFrame {m : SensorModel} {tick : Tick} (hm : s.sensorModel = some m) (hbits : s.bits.toInt ≤ 40)
    (hn : (s.interval tick).toNat ≤ 10000) (hin : s.inFrame = true) (level : BitVec 1) :
    present (encodeEvent (.edge level tick)) s
      = .next (masterComplete m (masterShift (s.interval tick) (s.noteTick tick).countEdge)) := by
  have hcount : (s.noteTick tick).countEdge.bits.toInt = s.bits.toInt + 1 := counter_succ_toInt s.bits (by omega)
  rw [present_edge level tick s (s.configured_of_sensorModel m hm), hin]
  rcases lt_or_ge s.bits.toInt 0 with hneg | hpos
  · rw [classify_discard hn hneg, masterShift_discard (by omega), masterComplete_of_bits_ne m (by omega)]
    rfl
  · rcases carries_or_outside (s.interval tick) with ⟨bit, hbit⟩ | hout
    · rw [classify_of_carries hbit hpos, exec_dataClass, dataEdge_eq_masterComplete hm hin,
        masterShift_carries hbit (by omega)]
      rfl
    · rw [classify_viol (by omega) hpos, masterShift_viol hout (by omega), masterComplete_idle m rfl]
      rfl

/-- The step by classes is the master rule (R62). -/
theorem present_edge_eq_edgeAlgorithm {m : SensorModel} (hm : s.sensorModel = some m) (hbits : s.bits.toInt ≤ 40)
    (level : BitVec 1) (tick : Tick) :
    present (encodeEvent (.edge level tick)) s = .next (edgeAlgorithm m tick s) := by
  have hcfg := s.configured_of_sensorModel m hm
  rw [edgeAlgorithm_eq]
  split
  next hsync =>
    rw [present_edge level tick s hcfg, classify_sync hsync]
    rfl
  next hle =>
    have hn := not_lt.1 hle
    split
    next hin => exact present_edge_inFrame hm hbits hn hin level
    next hout =>
      have hidle := Bool.eq_false_of_not_eq_true hout
      rw [present_edge level tick s hcfg, hidle, classify_ignore hn]
      rfl

end

/-- Settles O15: the step presents the edge, class by class what the master rule computes. -/
theorem edgeStepIsMasterRule : Obligations.EdgeStepIsMasterRule := by
  unfold Obligations.EdgeStepIsMasterRule
  intro s m level tick rest hm hbits hevents
  rw [step_cons s _ rest hevents]
  exact present_edge_eq_edgeAlgorithm (s := { s with events := rest }) hm hbits level tick

end Sys2Proof.Machine

/-! ## The frame validator (R82 to R96) -/

namespace Sys2Proof.Machine

section
variable {m : SensorModel} {f : Frame} {s : State} {b : FrameBytes} {b1 b2 b3 b4 : Byte}

/-- The VALIDATE row of a model runs VALIDATE under it (R59, R85). -/
theorem exec_validateInstr (m : SensorModel) (f : Frame) (s : State) :
    exec (validateInstr m f) s = .next (validate m f s) := by
  cases m <;> rfl

/-- A failure keeps the two values, and the flag but for FLAG_ON_INVALID (R91, R92). -/
theorem State.recordFailure_eq (s : State) (st : Status) :
    s.recordFailure st = { s with status := st, newData := s.newData || s.params.flagOnInvalid } := rfl

/-- A humidity in tenths is no negative number: it is stored as it is (R17, R88). -/
theorem State.recordGood_natCast_humidity (s : State) (t10 : Int) (h10 : Nat) :
    s.recordGood t10 h10 = { s with
      status := .good, temperatureX10 := BitVec.ofInt 16 t10, humidityX10 := BitVec.ofNat 16 h10, newData := true } := by
  rw [State.recordGood, BitVec.ofInt_natCast]

/-- Two non-negative values are both stored as they are. -/
theorem State.recordGood_natCast (s : State) (t10 h10 : Nat) :
    s.recordGood t10 h10 = { s with
      status := .good, temperatureX10 := BitVec.ofNat 16 t10, humidityX10 := BitVec.ofNat 16 h10, newData := true } := by
  rw [State.recordGood_natCast_humidity, BitVec.ofInt_natCast]

/-! ### The layouts on exact integers -/

/-- The DHT11 layout accepts exactly its ranges (R83). -/
theorem layoutDht11_eq {t10 h10 : Nat} (ht : 10 * b2.toNat + b1.toNat = t10) (hh : 10 * b4.toNat + b3.toNat = h10) :
    layoutDht11 b1 b2 b3 b4 = ⟨decide (t10 ≤ 600 ∧ 90 ≤ h10 ∧ h10 ≤ 900), t10, h10⟩ := by
  subst ht hh
  simp only [layoutDht11, dht11TMaxX10, dht11HMinX10, dht11HMaxX10, Candidate.mk.injEq,
    ← Bool.decide_and, decide_eq_decide]
  omega

/-- The DHTxx layout accepts exactly its ranges (R84). -/
theorem layoutDhtxx_eq {t10 : Int} {h10 : Nat} (ht : dhtxxTemperature b1 b2 = t10)
    (hh : 256 * b4.toNat + b3.toNat = h10) :
    layoutDhtxx b1 b2 b3 b4 = ⟨decide (h10 ≤ 1100 ∧ -500 ≤ t10 ∧ t10 ≤ 1350), t10, h10⟩ := by
  subst ht hh
  simp only [layoutDhtxx, dhtxxHMaxX10, dhtxxTMinX10, dhtxxTMaxX10, Candidate.mk.injEq,
    ← Bool.decide_and, decide_eq_decide, true_and]
  omega

/-- Masking the sign bit off a byte is reduction modulo 128 (R50). -/
theorem dhtxxMagnitude_eq (b1 b2 : Byte) : dhtxxMagnitude b1 b2 = (b2.toNat % 128 : Nat) * 256 + b1.toNat := by
  have hmask : (b2 &&& 0x7F#8).toNat = b2.toNat % 128 :=
    (BitVec.toNat_and ..).trans (Nat.and_two_pow_sub_one_eq_mod _ 7)
  rw [dhtxxMagnitude, hmask]
  norm_num

/-- The sign bit of a byte is set from 128 on (R50). -/
theorem dhtxxTemperature_eq (b1 b2 : Byte) :
    dhtxxTemperature b1 b2 = if 128 ≤ b2.toNat then -dhtxxMagnitude b1 b2 else dhtxxMagnitude b1 b2 := by
  have hsign : b2.getLsbD 7 = decide (128 ≤ b2.toNat) := BitVec.msb_eq_decide b2
  simp only [dhtxxTemperature, hsign, decide_eq_true_eq]

/-- Auto takes a DHTxx reading that is in range (R86). -/
theorem decodePayload_auto_of_valid (h : (layoutDhtxx b1 b2 b3 b4).valid = true) :
    decodePayload .auto b1 b2 b3 b4 = decodePayload .dhtxx b1 b2 b3 b4 := if_pos h

/-- Auto falls back to DHT11 otherwise (R86). -/
theorem decodePayload_auto_of_invalid (h : (layoutDhtxx b1 b2 b3 b4).valid = false) :
    decodePayload .auto b1 b2 b3 b4 = decodePayload .dht11 b1 b2 b3 b4 := if_neg (by simp [h])

/-! ### The outcome of VALIDATE -/

/-- On a matching checksum the candidate's range check decides (R87, R88). -/
theorem validate_of_candidate {valid : Bool} {t10 h10 : Int} (hb : b = frameBytes s.params.b0AtMsb f)
    (hsum : checksum b.b1 b.b2 b.b3 b.b4 = b.b0.toNat)
    (hc : decodePayload m b.b1 b.b2 b.b3 b.b4 = ⟨valid, t10, h10⟩) :
    validate m f s = if valid then s.recordGood t10 h10 else s.recordFailure .badData := by
  rw [validate_match m f s b hb hsum, hc]

/-- The model is read only to choose the candidate (R86). -/
theorem validate_congr_model {m' : SensorModel} (hb : b = frameBytes s.params.b0AtMsb f)
    (hc : decodePayload m b.b1 b.b2 b.b3 b.b4 = decodePayload m' b.b1 b.b2 b.b3 b.b4) :
    validate m f s = validate m' f s := by
  subst hb
  simp only [validate, hc]

/-- Only an accepted candidate is reported as Good (R88). -/
theorem valid_of_validate_good (hb : b = frameBytes s.params.b0AtMsb f) (hgood : (validate m f s).status = .good) :
    (decodePayload m b.b1 b.b2 b.b3 b.b4).valid = true ∧
      validate m f s
        = s.recordGood (decodePayload m b.b1 b.b2 b.b3 b.b4).t10 (decodePayload m b.b1 b.b2 b.b3 b.b4).h10 := by
  subst hb
  rcases validate_cases m f s with ⟨-, h⟩ | ⟨-, -, h⟩ | ⟨-, hv, h⟩
  · simp [h] at hgood
  · simp [h] at hgood
  · exact ⟨hv, h⟩

/-- A Good of any model stores values in the overall ranges (R94). -/
theorem valuesInRange_of_validate_good (hgood : (validate m f s).status = .good) :
    (validate m f s).valuesInRange := by
  obtain ⟨hvalid, heq⟩ := valid_of_validate_good rfl hgood
  rw [heq]
  exact recordGood_valuesInRange s _ (decodePayload_inRange m _ _ _ _ hvalid)

/-- A Good of DHT11 stores values in that layout's narrower ranges (R94). -/
theorem dht11Values_of_validate_good (hgood : (validate .dht11 f s).status = .good) :
    0 ≤ (validate .dht11 f s).temperatureX10.toInt ∧ (validate .dht11 f s).temperatureX10.toInt ≤ 600 ∧
      90 ≤ (validate .dht11 f s).humidityX10.toNat ∧ (validate .dht11 f s).humidityX10.toNat ≤ 900 := by
  obtain ⟨hvalid, heq⟩ := valid_of_validate_good rfl hgood
  rw [decodePayload, layoutDht11_eq rfl rfl] at hvalid heq
  obtain ⟨ht, hlow, hhigh⟩ := of_decide_eq_true hvalid
  simp only [heq, State.recordGood_natCast, BitVec.toInt_ofNat', BitVec.toNat_ofNat, Int.bmod]
  omega

/-- A frame that carries its own checksum is judged by its payload alone, from either end (R95). -/
theorem validate_frameOfBytes_checksum {t10 h10 : Int} (s : State)
    (hc : decodePayload m b1 b2 b3 b4 = ⟨true, t10, h10⟩) :
    validate m (frameOfBytes s.params.b0AtMsb ⟨BitVec.ofNat 8 (checksum b1 b2 b3 b4), b1, b2, b3, b4⟩) s
      = s.recordGood t10 h10 := by
  have hsum : checksum b1 b2 b3 b4 = (BitVec.ofNat 8 (checksum b1 b2 b3 b4)).toNat :=
    (Nat.mod_eq_of_lt (Nat.mod_lt _ (by decide))).symm
  have hb := frameBytes_frameOfBytes s.params.b0AtMsb ⟨BitVec.ofNat 8 (checksum b1 b2 b3 b4), b1, b2, b3, b4⟩
  rw [validate_of_candidate hb.symm hsum hc, if_pos rfl]

/-- Without a configured model the 40th data edge has no validator (R53, R85). -/
theorem dataEdge_refused {bit : Bool} {tick : Tick} (hm : s.sensorModel = none)
    (hlast : s.bits + 1 = frameBitCount) : dataEdge bit tick s = .refused .reservedModel := by
  rw [dataEdge_eq_ite, if_pos hlast]
  exact completeFrame_none _ hm

/-! ### The payload built from values (R95) -/

/-- Quotient and remainder by 10 make up a value of up to three digits. -/
theorem digits_toNat {n : Nat} (h : n ≤ 900) :
    10 * (BitVec.ofNat 8 (n / 10)).toNat + (BitVec.ofNat 8 (n % 10)).toNat = n := by
  simp only [BitVec.toNat_ofNat]
  omega

/-- High and low byte make up a 16-bit value. -/
theorem bytes_toNat {n : Nat} (h : n < 2 ^ 16) :
    256 * (BitVec.ofNat 8 (n / 256)).toNat + (BitVec.ofNat 8 (n % 256)).toNat = n := by
  simp only [BitVec.toNat_ofNat]
  omega

/-- Sign and magnitude make up a temperature of up to 15 bits. -/
theorem dhtxxTemperature_natAbs {t10 : Int} (h : t10.natAbs < 2 ^ 15) :
    dhtxxTemperature (BitVec.ofNat 8 (t10.natAbs % 256))
      (BitVec.ofNat 8 ((if t10 < 0 then 128 else 0) + t10.natAbs / 256)) = t10 := by
  rw [dhtxxTemperature_eq, dhtxxMagnitude_eq, BitVec.toNat_ofNat, BitVec.toNat_ofNat]
  split <;> omega

end

/-! ### The obligations -/

/-- Settles O19: the checksum is compared before the model's layouts are tried. -/
theorem mismatchIsBadChecksum : Obligations.MismatchIsBadChecksum := by
  unfold Obligations.MismatchIsBadChecksum
  intro m f s b hb hsum
  subst hb
  rw [exec_validateInstr, validate_mismatch m f s hsum, State.recordFailure_eq]

/-- Settles O20, by the DHT11 candidate. -/
theorem dht11LayoutOutcome : Obligations.Dht11LayoutOutcome := by
  unfold Obligations.Dht11LayoutOutcome
  intro f s b hb hsum t10 h10
  have hval := validate_of_candidate (m := .dht11) hb hsum (layoutDht11_eq (t10 := t10) (h10 := h10) rfl rfl)
  refine ⟨fun hin => congrArg Host.Outcome.next ?_, fun hout => congrArg Host.Outcome.next ?_⟩
  · rw [hval, if_pos (decide_eq_true hin), State.recordGood_natCast]
  · rw [hval, if_neg (by simpa using hout), State.recordFailure_eq]

/-- Settles O21, by the DHTxx candidate. -/
theorem dhtxxLayoutOutcome : Obligations.DhtxxLayoutOutcome := by
  unfold Obligations.DhtxxLayoutOutcome
  intro f s b hb hsum mag t10 h10
  have ht : dhtxxTemperature b.b1 b.b2 = t10 := by rw [dhtxxTemperature_eq, dhtxxMagnitude_eq]
  have hval := validate_of_candidate (m := .dhtxx) hb hsum (layoutDhtxx_eq (h10 := h10) ht rfl)
  refine ⟨fun hin => congrArg Host.Outcome.next ?_, fun hout => congrArg Host.Outcome.next ?_⟩
  · rw [hval, if_pos (decide_eq_true hin), State.recordGood_natCast_humidity]
  · rw [hval, if_neg (by simpa using hout), State.recordFailure_eq]

/-- Settles O22: Auto's candidate is that of the one layout or the other. -/
theorem autoTriesDhtxxFirst : Obligations.AutoTriesDhtxxFirst := by
  unfold Obligations.AutoTriesDhtxxFirst
  intro f s b hb
  refine ⟨⟨validate .auto f s, rfl⟩, fun hvalid => ?_, fun hinvalid => ?_⟩
  · exact congrArg Host.Outcome.next (validate_congr_model hb (decodePayload_auto_of_valid hvalid))
  · exact congrArg Host.Outcome.next (validate_congr_model hb (decodePayload_auto_of_invalid hinvalid))

/-- Settles O24: the digits make up the two values, which are in range. -/
theorem dht11RoundTrip : Obligations.Dht11RoundTrip := by
  unfold Obligations.Dht11RoundTrip
  intro s t10 h10 ht hlow hhigh b1 b2 b3 b4
  have hc : decodePayload .dht11 b1 b2 b3 b4 = ⟨true, t10, h10⟩ := by
    rw [decodePayload, layoutDht11_eq (digits_toNat (ht.trans (by decide))) (digits_toNat hhigh),
      decide_eq_true ⟨ht, hlow, hhigh⟩]
  refine congrArg Host.Outcome.next ?_
  rw [validate_frameOfBytes_checksum s hc, State.recordGood_natCast]

/-- Settles O25: the bytes make up the two values, which are in range, so Auto takes the DHTxx candidate too. -/
theorem dhtxxRoundTrip : Obligations.DhtxxRoundTrip := by
  unfold Obligations.DhtxxRoundTrip
  intro s t10 h10 hlow hhigh hh b1 b2 b3 b4 f t
  have hc : decodePayload .dhtxx b1 b2 b3 b4 = ⟨true, t10, h10⟩ := by
    rw [decodePayload, layoutDhtxx_eq (dhtxxTemperature_natAbs (by omega)) (bytes_toNat (by omega)),
      decide_eq_true ⟨hh, hlow, hhigh⟩]
  have hauto := (decodePayload_auto_of_valid (congrArg Candidate.valid hc)).trans hc
  have hgood : s.recordGood t10 h10 = t := s.recordGood_natCast_humidity t10 h10
  exact ⟨congrArg Host.Outcome.next ((validate_frameOfBytes_checksum s hc).trans hgood),
    congrArg Host.Outcome.next ((validate_frameOfBytes_checksum s hauto).trans hgood)⟩

/-- Settles O26: a Good after VALIDATE is one that it wrote, with a candidate in range. -/
theorem storedValuesInRange : Obligations.StoredValuesInRange := by
  unfold Obligations.StoredValuesInRange
  intro f s t hgood
  refine ⟨fun h => ?_, fun h => ?_, fun h => ?_⟩ <;> cases h
  · exact dht11Values_of_validate_good hgood
  · exact and_assoc.1 (valuesInRange_of_validate_good hgood)
  · exact and_assoc.1 (valuesInRange_of_validate_good hgood)

/-- Settles O23: each frame's checksum and candidate are computed, the rest is the outcome of the candidate. -/
theorem autoAmbiguityExamples : Obligations.AutoAmbiguityExamples := by
  unfold Obligations.AutoAmbiguityExamples
  intro s hmsb
  have hbytes (f : Frame) : frameBytes true f = frameBytes s.params.b0AtMsb f := by rw [hmsb]
  have both := hbytes 0x6105015A01#40
  have retry := hbytes 0xDD47059001#40
  refine ⟨?_, ?_, ?_, ?_⟩ <;> refine congrArg Host.Outcome.next ?_
  · exact validate_of_candidate (valid := true) (t10 := 261) (h10 := 346) both (by decide) (by decide)
  · exact validate_of_candidate (valid := true) (t10 := 15) (h10 := 100) both (by decide) (by decide)
  · exact validate_of_candidate (valid := true) (t10 := 121) (h10 := 154) retry (by decide) (by decide)
  · exact validate_of_candidate (valid := false) (t10 := 1351) (h10 := 400) retry (by decide) (by decide)

/-- Settles O31: code 3 configures no model. -/
theorem completionUnderReservedModel : Obligations.CompletionUnderReservedModel := by
  unfold Obligations.CompletionUnderReservedModel
  intro level tick s hport hlast
  have hm : s.sensorModel = none := (SensorModel.ofCode_eq_none s.modelPort).2 hport
  exact ⟨dataEdge_refused hm hlast, dataEdge_refused hm hlast⟩

end Sys2Proof.Machine

/-! ## The control events (R100 to R103) -/

namespace Sys2Proof

theorem decodeEvent_of_rst {w : EventWord} (rst : w.getLsbD 35 = true) :
    decodeEvent w = .reset (w.extractLsb' 0 35) := by
  simp only [decodeEvent, rst]

theorem decodeEvent_of_arm {w : EventWord} (rst : w.getLsbD 35 = false) (arm : w.getLsbD 34 = true)
    (edgeValid : w.getLsbD 33 = false) : decodeEvent w = .arm (w.extractLsb' 0 33) := by
  simp only [decodeEvent, rst, arm, edgeValid]

theorem decodeEvent_of_nop {w : EventWord} (rst : w.getLsbD 35 = false) (arm : w.getLsbD 34 = false)
    (edgeValid : w.getLsbD 33 = false) : decodeEvent w = .nop (w.extractLsb' 0 33) := by
  simp only [decodeEvent, rst, arm, edgeValid]

end Sys2Proof

namespace Sys2Proof.Machine

/-- Settles O27: the writes are those of `resetBlock`, and rst alone selects the event. -/
theorem resetWritesAllEight : Obligations.ResetWritesAllEight := by
  unfold Obligations.ResetWritesAllEight
  refine ⟨fun x s => rfl, fun w ctx rst => ⟨w.extractLsb' 0 35, ?_⟩⟩
  rw [decode, decodeEvent_of_rst rst, instrOfEvent]

/-- Settles O28: the writes are those of `pend`, in any state, so in the armed state too. -/
theorem armPendsResult : Obligations.ArmPendsResult := by
  unfold Obligations.ArmPendsResult
  refine ⟨fun x y s => ⟨rfl, rfl⟩, fun w ctx rst arm edgeValid => ⟨w.extractLsb' 0 33, ?_⟩⟩
  rw [decode, decodeEvent_of_arm rst arm edgeValid, instrOfEvent]

/-- Settles O29: NOP's meaning is the identity. -/
theorem nopChangesNothing : Obligations.NopChangesNothing := by
  unfold Obligations.NopChangesNothing
  refine ⟨fun x s => rfl, fun w ctx rst arm edgeValid => ⟨w.extractLsb' 0 33, ?_⟩⟩
  rw [decode, decodeEvent_of_nop rst arm edgeValid, instrOfEvent]

/-! ## Words that leave the result group alone -/

/-- No event writes the model input or the words to come (R19, R41, R38). -/
theorem present_inputs {w : EventWord} {s t : State} (h : present w s = .next t) :
    t.modelPort = s.modelPort ∧ t.events = s.events := by
  obtain ⟨hcfg, -⟩ := present_next_cases w s t h
  have hsame : present w s = .next { t with modelPort := s.modelPort, events := s.events } :=
    present_mapInputs (f := fun _ => s.modelPort) (g := fun _ => s.events) hcfg (fun _ => rfl) h
  injection h.symm.trans hsame with ht
  rw [ht]
  exact ⟨rfl, rfl⟩

theorem present_nop {w : EventWord} {x : BitVec 33} {s : State} (hcfg : s.configured) (hw : decodeEvent w = .nop x) :
    present w s = .next s := by
  rw [present_event w s hcfg, hw]
  rfl

theorem runWords_nops {ws : List EventWord} {s : State} (hcfg : s.configured)
    (hws : ∀ w ∈ ws, ∃ x, decodeEvent w = .nop x) : runWords ws s = .next s := by
  induction ws with
  | nil => rfl
  | cons w ws ih =>
    obtain ⟨⟨x, hx⟩, hrest⟩ := List.forall_mem_cons.1 hws
    exact (runWords_cons_next w ws s s (present_nop hcfg hx)).trans (ih hrest)

theorem notReserved_iff (w : EventWord) : notReserved w = true ↔ strobes w ≠ 0b011#3 := by
  have hrow := eventRow_decodeEvent w
  unfold notReserved
  generalize decodeEvent w = e at hrow ⊢
  cases hrow with
  | reset rst => simp [strobes_ne_of_rst rst]
  | arm h | nop h | edge h | reserved h => simp [h]

/-- The words are no RESET, ARM or reserved word, and none of them, run from `s`, completes a frame. -/
def NoFrame (ws : List EventWord) (s : State) : Prop :=
  (∀ w ∈ ws, keepsFlag w = true ∧ notReserved w = true) ∧
    ∀ (before after : List EventWord) (w : EventWord) (u : State), ws = before ++ w :: after →
      runWords before s = .next u → ¬completes w u

/-- The first of such words goes on with the result group as it was, and the others are such words from there. -/
theorem NoFrame.present_head {w : EventWord} {ws : List EventWord} {s : State} (h : NoFrame (w :: ws) s)
    (hcfg : s.configured) : ∃ t, present w s = .next t ∧ t.observe = s.observe ∧ NoFrame ws t := by
  obtain ⟨hwords, hmore⟩ := h
  obtain ⟨⟨hkeep, hlegal⟩, hrest⟩ := List.forall_mem_cons.1 hwords
  have hnot : ¬completes w s := hmore [] ws w s rfl rfl
  obtain ⟨t, ht⟩ := (present_next_iff w s).2 ⟨hcfg, (notReserved_iff w).1 hlegal⟩
  refine ⟨t, ht, ?_, hrest, fun before after x u hsplit hu => ?_⟩
  · cases resultStep_of_next ht with
    | good _ hc | failed _ hc => exact absurd hc hnot
    | arm _ hw => simp [(keepsFlag_eq_false_iff w).2 (.inl hw)] at hkeep
    | reset _ hw => simp [(keepsFlag_eq_false_iff w).2 (.inr hw)] at hkeep
    | keep _ _ ho => exact ho
  · exact hmore (w :: before) after x u (congrArg (w :: ·) hsplit) ((runWords_cons_next w before s t ht).trans hu)

/-- A first part of such words runs to its end with the result group as it was. -/
theorem NoFrame.runWords_firstPart {xs ys : List EventWord} {s : State} (h : NoFrame (xs ++ ys) s) (hcfg : s.configured) :
    ∃ t, runWords xs s = .next t ∧ t.observe = s.observe ∧ t.configured ∧ NoFrame ys t := by
  induction xs generalizing s with
  | nil => exact ⟨s, rfl, rfl, hcfg, h⟩
  | cons w xs ih =>
    obtain ⟨u, hu, hobs, hrest⟩ := h.present_head hcfg
    have hucfg : u.configured := by
      rw [State.configured, (present_inputs hu).1]
      exact hcfg
    obtain ⟨t, ht, hobs', htcfg, hys⟩ := ih hrest hucfg
    exact ⟨t, (runWords_cons_next w xs s u hu).trans ht, hobs'.trans hobs, htcfg, hys⟩

/-! ## A read (R108, R109) -/

theorem newData_of_observe_eq {s t : State} (h : t.observe = s.observe) : t.newData = s.newData :=
  congrArg ResultGroup.newData h

/-- A poll that finds the flag set is the last. -/
theorem pollLoop_stop {ws : List EventWord} {more : List (List EventWord)} {s t : State}
    (h : runWords ws s = .next t) (hflag : t.newData = true) : pollLoop (ws :: more) s = .next t := by
  simp [pollLoop, h, hflag]

theorem pollLoop_continue {ws : List EventWord} {more : List (List EventWord)} {s t : State}
    (h : runWords ws s = .next t) (hflag : t.newData = false) : pollLoop (ws :: more) s = pollLoop more t := by
  simp [pollLoop, h, hflag]

theorem pollLoop_nops {polls : List (List EventWord)} {s : State} (hcfg : s.configured) (hflag : s.newData = false)
    (hpolls : ∀ ws ∈ polls, ∀ w ∈ ws, ∃ x, decodeEvent w = .nop x) : pollLoop polls s = .next s := by
  induction polls with
  | nil => rfl
  | cons ws more ih =>
    obtain ⟨hws, hmore⟩ := List.forall_mem_cons.1 hpolls
    exact (pollLoop_continue (runWords_nops hcfg hws) hflag).trans (ih hmore)

/-- Without a frame the flag stays clear, so the polling goes to its end. -/
theorem pollLoop_noFrame {polls : List (List EventWord)} {s : State} (hcfg : s.configured) (hflag : s.newData = false)
    (h : NoFrame polls.flatten s) : ∃ t, pollLoop polls s = .next t ∧ t.observe = s.observe := by
  induction polls generalizing s with
  | nil => exact ⟨s, rfl, rfl⟩
  | cons ws more ih =>
    rw [List.flatten_cons] at h
    obtain ⟨u, hu, hobs, hucfg, hrest⟩ := h.runWords_firstPart hcfg
    have huflag : u.newData = false := (newData_of_observe_eq hobs).trans hflag
    obtain ⟨t, ht, hobs'⟩ := ih hucfg huflag hrest
    exact ⟨t, (pollLoop_continue hu huflag).trans ht, hobs'.trans hobs⟩

/-- A read is its polls from the armed state, and then the observation. -/
theorem read_of_pollLoop {polls : List (List EventWord)} {s t : State} (hcfg : s.configured)
    (h : pollLoop polls s.pend = .next t) : read polls s = .next (t, t.observe.reading) := by
  simp only [read, readContextStep_configured s hcfg, h]

/-- Settles O52: the polls leave the armed state as it is. -/
theorem readWithoutEdgesTimesOut : Obligations.ReadWithoutEdgesTimesOut := by
  unfold Obligations.ReadWithoutEdgesTimesOut
  intro s polls hcfg _ hnops
  exact read_of_pollLoop hcfg (pollLoop_nops (s := s.pend) hcfg rfl hnops)

/-- Settles O53: the final observation is that of the armed state. -/
theorem readWithoutFrameTimesOut : Obligations.ReadWithoutFrameTimesOut := by
  unfold Obligations.ReadWithoutFrameTimesOut
  intro s polls hcfg _ hwords hmore
  obtain ⟨t, ht, hobs⟩ := pollLoop_noFrame (s := s.pend) hcfg rfl ⟨hwords, hmore⟩
  refine ⟨t, ?_, newData_of_observe_eq hobs⟩
  rw [read_of_pollLoop hcfg ht, hobs]
  rfl

section
variable {s : State} {m : SensorModel} {f : Frame} {sync k1 k2 : Tick} {ns : List Tick}

/-- A whole frame that comes to an armed block is validated there (R56, R69). -/
theorem runWords_frame_pend (hm : s.sensorModel = some m) (hsync : 10000 < sync.toNat) (hk1 : k1.toNat ≤ 10000)
    (hk2 : k2.toNat ≤ 10000) (hcarry : List.Forall₂ carries (frameBits f) ns) :
    ∃ t, runWords (gaps s.lastTick (sync :: k1 :: k2 :: ns)) s.pend = .next t ∧
      t.observe = (validate m f s.pend).observe ∧ t.configured ∧ t.inFrame = false ∧ t.code = f := by
  let t := s.pend.delivered m f ((sync :: k1 :: k2 :: ns).foldl (· + ·) s.lastTick)
  have hrun := (sentFrameIsValidated s.pend m f sync k1 k2 ns hm hsync hk1 hk2 hcarry).2
  have hport : t.modelPort = s.modelPort := validate_modelPort m f _
  have hcfg : t.configured := by
    rw [State.configured, hport]
    exact s.configured_of_sensorModel m hm
  exact ⟨t, hrun, delivered_observe m f _ s.pend, hcfg, validate_inFrame m f _, validate_code m f _⟩

/-- A frame that fails leaves the flag clear with FLAG_ON_INVALID false, so the read polls on and returns the failure. -/
theorem read_failedFrame {st : Status} {more : List (List EventWord)} (hm : s.sensorModel = some m)
    (hfoi : s.params.flagOnInvalid = false) (hsync : 10000 < sync.toNat) (hk1 : k1.toNat ≤ 10000)
    (hk2 : k2.toNat ≤ 10000) (hcarry : List.Forall₂ carries (frameBits f) ns)
    (hmore : ∀ ws ∈ more, ∀ w ∈ ws, ∃ x, decodeEvent w = .nop x)
    (hfail : validate m f s.pend = s.pend.recordFailure st) :
    ∃ t, read (gaps s.lastTick (sync :: k1 :: k2 :: ns) :: more) s
      = .next (t, ⟨st, s.temperatureX10, s.humidityX10⟩) ∧ t.newData = false := by
  obtain ⟨t, hrun, hobs, hcfg, -, -⟩ := runWords_frame_pend hm hsync hk1 hk2 hcarry
  rw [hfail] at hobs
  have hflag : t.newData = false := (newData_of_observe_eq hobs).trans (by simp [hfoi])
  have hpolls := (pollLoop_continue hrun hflag).trans (pollLoop_nops hcfg hflag hmore)
  refine ⟨t, ?_, hflag⟩
  rw [read_of_pollLoop (s.configured_of_sensorModel m hm) hpolls, hobs]
  rfl

end

/-- Settles O54: the Good sets the flag, so the first poll is the last. -/
theorem readReturnsGoodFrame : Obligations.ReadReturnsGoodFrame := by
  unfold Obligations.ReadReturnsGoodFrame
  intro s m f sync k1 k2 ns more b hm _ hsync hk1 hk2 hcarry hb hsum hvalid
  obtain ⟨t, hrun, hobs, -, hidle, hcode⟩ := runWords_frame_pend hm hsync hk1 hk2 hcarry
  rw [validate_match m f s.pend b hb hsum, if_pos hvalid] at hobs
  have hflag : t.newData = true := newData_of_observe_eq hobs
  refine ⟨t, ?_, hflag, hidle, hcode⟩
  rw [read_of_pollLoop (s.configured_of_sensorModel m hm) (pollLoop_stop hrun hflag), hobs]
  rfl

/-- Settles O55, by the two failing outcomes of VALIDATE on the armed state. -/
theorem readReportsFailedFrame : Obligations.ReadReportsFailedFrame := by
  unfold Obligations.ReadReportsFailedFrame
  intro s m f sync k1 k2 ns more b hm hfoi _ hsync hk1 hk2 hcarry hmore hb
  refine ⟨fun hsum => ?_, fun hsum hvalid => ?_⟩
  · subst hb
    exact read_failedFrame hm hfoi hsync hk1 hk2 hcarry hmore (validate_mismatch m f s.pend hsum)
  · refine read_failedFrame hm hfoi hsync hk1 hk2 hcarry hmore ?_
    rw [validate_match m f s.pend b hb hsum, if_neg (by simp [hvalid])]

/-! ## After cancel (R106) -/

/-- No edge notification is to come. -/
def State.edgeFree (s : State) : Prop := ∀ w ∈ s.events, isEdgeWord w = false

theorem cancel_edgeFree (s : State) : (cancel s).edgeFree := by
  intro w hw
  simpa using (List.mem_filter.1 hw).2

/-- From `s` to `t` no result was produced: at most Timeout, a clear flag and the defaults were written. -/
structure YieldsNothing (s t : State) : Prop where
  status : t.status = s.status ∨ t.status = .timeout
  newData : t.newData = true → s.newData = true
  values : (t.temperatureX10 = s.temperatureX10 ∧ t.humidityX10 = s.humidityX10) ∨
    (t.temperatureX10 = s.params.tempDefaultX10 ∧ t.humidityX10 = s.params.humDefaultX10)
  params : t.params = s.params

theorem YieldsNothing.refl (s : State) : YieldsNothing s s := ⟨.inl rfl, id, .inl ⟨rfl, rfl⟩, rfl⟩

theorem YieldsNothing.trans {s t u : State} (h : YieldsNothing s t) (h' : YieldsNothing t u) : YieldsNothing s u where
  status := by
    rcases h'.status with hsame | htimeout
    · rw [hsame]
      exact h.status
    · exact .inr htimeout
  newData := h.newData ∘ h'.newData
  values := by
    rcases h'.values with ⟨htemp, hhum⟩ | hdefault
    · rw [htemp, hhum]
      exact h.values
    · rw [h.params] at hdefault
      exact .inr hdefault
  params := h'.params.trans h.params

/-- A word that is no EDGE yields nothing: it is RESET, ARM or NOP. -/
theorem PresentStep.yieldsNothing {w : EventWord} {s t : State} (h : PresentStep w s t) (hw : isEdgeWord w = false) :
    YieldsNothing s t := by
  cases h with
  | reset => exact ⟨.inr rfl, by simp, .inr ⟨rfl, rfl⟩, rfl⟩
  | arm => exact ⟨.inr rfl, by simp, .inl ⟨rfl, rfl⟩, rfl⟩
  | nop => exact .refl s
  | edge level tick c _ hedge => simp [isEdgeWord, hedge] at hw

/-- The word of a step is one of those to come, or, with none listed, a NOP. -/
theorem State.edgeFree.fetch_word {s : State} (h : s.edgeFree) : isEdgeWord s.fetch.1 = false := by
  cases hevents : s.events with
  | nil =>
    rw [s.fetch_word_nil hevents]
    decide
  | cons w rest =>
    rw [s.fetch_word_cons w rest hevents]
    exact h w (by simp [hevents])

theorem State.edgeFree.yieldsNothing_step {s t : State} (h : s.edgeFree) (hstep : step s = .next t) :
    YieldsNothing s t ∧ t.edgeFree := by
  obtain ⟨hstatus, hnew, hvalues, hparams⟩ := (presentStep_of_next hstep).yieldsNothing h.fetch_word
  refine ⟨⟨hstatus, hnew, hvalues, hparams⟩, fun w hw => h w ?_⟩
  rw [(present_inputs hstep).2, State.fetch_events] at hw
  exact List.mem_of_mem_tail hw

theorem run_succ_inv {n : Nat} {s t : State} (h : Host.Core.run Sys2Proof.core (n + 1) s = .next t) :
    ∃ u, step s = .next u ∧ Host.Core.run Sys2Proof.core n u = .next t := by
  simp only [Host.Core.run] at h
  split at h
  · next u hu => exact ⟨u, hu, h⟩
  · cases h
  · cases h

theorem State.edgeFree.yieldsNothing_run {n : Nat} {s t : State} (h : s.edgeFree)
    (hrun : Host.Core.run Sys2Proof.core n s = .next t) : YieldsNothing s t := by
  induction n generalizing s with
  | zero =>
    cases hrun
    exact .refl _
  | succ n ih =>
    obtain ⟨u, hstep, hrest⟩ := run_succ_inv hrun
    obtain ⟨hyields, hfree⟩ := h.yieldsNothing_step hstep
    exact hyields.trans (ih hfree hrest)

theorem cancel_cancel (s : State) : cancel (cancel s) = cancel s := by
  simp [cancel, List.filter_filter]

/-- Settles O56: after cancel no word to come is an EDGE, and only an EDGE can yield a result. -/
theorem cancelledSensorYieldsNothing : Obligations.CancelledSensorYieldsNothing := by
  unfold Obligations.CancelledSensorYieldsNothing
  intro s
  refine ⟨cancel_cancel s, rfl, fun n t hrun => ?_⟩
  obtain ⟨hstatus, hnew, hvalues, -⟩ := (cancel_edgeFree s).yieldsNothing_run hrun
  exact ⟨hstatus, hnew, hvalues⟩

end Sys2Proof.Machine

/-! ## No event faults (R120, R164) and Sensors share nothing (R139) -/

namespace Sys2Proof.Machine

theorem dataEdge_keeps_configuration {bit : Bool} {tick : Tick} {s t : State} (h : dataEdge bit tick s = .next t) :
    t.modelPort = s.modelPort ∧ t.params = s.params ∧ t.events = s.events := by
  rcases dataEdge_cases bit tick s with ⟨-, hshift⟩ | ⟨-, -, hrefused⟩ | ⟨m, -, -, hcomplete⟩
  · cases hshift.symm.trans h
    exact ⟨rfl, rfl, rfl⟩
  · cases hrefused.symm.trans h
  · cases hcomplete.symm.trans h
    simp [afterData]

/-- No instruction that goes on writes the configuration or the words to come (R19, R38). -/
theorem exec_keeps_configuration {i : Instr} {s t : State} (h : exec i s = .next t) :
    t.modelPort = s.modelPort ∧ t.params = s.params ∧ t.events = s.events := by
  cases i with
  | edgeBit0 level tick | edgeBit1 level tick => exact dataEdge_keeps_configuration h
  | validateDht11 f | validateDhtxx f | validateAuto f =>
    cases h
    exact ⟨validate_modelPort _ f s, validate_params _ f s, validate_events _ f s⟩
  | reservedArmEdge x => cases h
  | _ =>
    cases h
    exact ⟨rfl, rfl, rfl⟩

/-- Settles O36: the instruction goes on, and what goes on keeps the configuration. -/
theorem everyInstructionCompletes : Obligations.EveryInstructionCompletes := by
  unfold Obligations.EveryInstructionCompletes
  intro i s hcfg hi
  obtain ⟨t, ht⟩ := exec_next hcfg hi
  exact ⟨t, ht, exec_keeps_configuration ht⟩

/-- A vector of Sensors goes on exactly when the chosen one does, which alone is replaced. -/
theorem stepSensor_next_iff {n : Nat} {i : Fin n} {v a : Sensors n} :
    stepSensor i v = .next a ↔ ∃ t, step v[i] = .next t ∧ v.set i t = a := by
  rw [stepSensor]
  cases step v[i] <;> simp

/-- Replacing one Sensor leaves every other as it is. -/
theorem Sensors.get_set_of_ne {n : Nat} {i k : Fin n} (hki : k ≠ i) (v : Sensors n) (t : State) : (v.set i t)[k] = v[k] :=
  Vector.getElem_set_ne i.isLt k.isLt (Fin.val_ne_of_ne hki.symm)

/-- Settles O57: each step reads and writes its own place only, and writes to two places commute. -/
theorem sensorsAreIndependent : Obligations.SensorsAreIndependent := by
  unfold Obligations.SensorsAreIndependent
  intro n i j v a hij hi
  obtain ⟨t, ht, rfl⟩ := stepSensor_next_iff.1 hi
  have hself : (v.set i t)[i] = t := Vector.getElem_set_self i.isLt
  refine ⟨fun k hk => Sensors.get_set_of_ne hk v t, ht.trans (congrArg _ hself.symm), fun b hj => ?_⟩
  obtain ⟨u, hu, rfl⟩ := stepSensor_next_iff.1 hj
  rw [Sensors.get_set_of_ne hij.symm] at hu
  refine ⟨v.set j u, stepSensor_next_iff.2 ⟨u, hu, rfl⟩, stepSensor_next_iff.2 ⟨t, ?_, ?_⟩⟩
  · rw [Sensors.get_set_of_ne hij, ht]
  · exact Vector.set_comm _ _ (Fin.val_ne_of_ne hij.symm)

end Sys2Proof.Machine

/-! ## The first edge after RESET (R24, R151) -/

namespace Sys2Proof.Machine

/-- Settles O45: the block is Idle after RESET, so the edge is a SYNC or an IGNORE, by its interval alone. -/
theorem firstEdgeAfterReset : Obligations.FirstEdgeAfterReset := by
  unfold Obligations.FirstEdgeAfterReset
  intro p port level tick hport
  have hcfg : (State.resetWith p port).configured := hport
  have hinterval : (State.resetWith p port).interval tick = tick - p.lastTickInit := rfl
  rw [edgeContextStep, present_edge level tick _ hcfg, hinterval, State.resetWith_inFrame]
  split
  next hsync =>
    rw [classify_sync hsync]
    rfl
  next hle =>
    rw [classify_ignore (not_lt.1 hle)]
    rfl

/-! ## Which sequences run to their end (R53, R164, R166) -/

/-- The configuration is as legal after a word as it was before (R19). -/
theorem present_configured_iff {w : EventWord} {s t : State} (h : present w s = .next t) :
    t.configured ↔ s.configured := by
  rw [State.configured, State.configured, (present_inputs h).1]

theorem runWords_cons_next_iff (w : EventWord) (ws : List EventWord) (s t : State) :
    runWords (w :: ws) s = .next t ↔ ∃ u, present w s = .next u ∧ runWords ws u = .next t :=
  ⟨runWords_cons_inv, fun ⟨u, hw, hrest⟩ => (runWords_cons_next w ws s u hw).trans hrest⟩

/-- Settles O46, by induction on the words: each goes on exactly when the configuration is legal and it is not the reserved
one, and it leaves the configuration as it was. -/
theorem legalSequencesRunToTheEnd : Obligations.LegalSequencesRunToTheEnd := by
  unfold Obligations.LegalSequencesRunToTheEnd
  intro ws
  induction ws with
  | nil =>
    intro s
    simp [runWords]
  | cons w ws ih =>
    intro s
    simp only [runWords_cons_next_iff, List.forall_mem_cons, reduceCtorEq, or_false]
    constructor
    · rintro ⟨t, u, hw, hrest⟩
      obtain ⟨hcfg, hlegal⟩ := (present_next_iff w s).1 ⟨u, hw⟩
      exact ⟨hcfg, (notReserved_iff w).2 hlegal, ((ih u).1 ⟨t, hrest⟩).2⟩
    · rintro ⟨hcfg, hlegal, hrest⟩
      obtain ⟨u, hw⟩ := (present_next_iff w s).2 ⟨hcfg, (notReserved_iff w).1 hlegal⟩
      obtain ⟨t, ht⟩ := (ih u).2 ⟨.inl ((present_configured_iff hw).2 hcfg), hrest⟩
      exact ⟨t, u, hw, ht⟩

/-! ## ARM before or after other words (R102, R155, R156) -/

theorem present_arm (x : BitVec 33) {s : State} (hcfg : s.configured) :
    present (encodeEvent (.arm x)) s = .next s.pend := by
  rw [present_event _ s hcfg, decodeEvent_encodeEvent]
  rfl

theorem dataEdge_pend {bit : Bool} {tick : Tick} {s t : State} (hmore : s.bits + 1 ≠ frameBitCount)
    (h : dataEdge bit tick s = .next t) : dataEdge bit tick s.pend = .next t.pend := by
  rw [dataEdge_more hmore] at h
  cases h
  exact dataEdge_more (s := s.pend) hmore

/-- Of the EDGE classes only the completing data edge reads or writes what ARM writes. -/
theorem exec_edgeInstr_pend {c : EdgeClass} {level : BitVec 1} {tick : Tick} {s t : State}
    (hmore : (∃ bit, c = dataClass bit) → s.bits + 1 ≠ frameBitCount) (h : exec (edgeInstr c level tick) s = .next t) :
    exec (edgeInstr c level tick) s.pend = .next t.pend := by
  cases c with
  | bit0 => exact dataEdge_pend (hmore ⟨false, rfl⟩) h
  | bit1 => exact dataEdge_pend (hmore ⟨true, rfl⟩) h
  | sync | ignore | skip | viol =>
    cases h
    rfl

/-- A word that completes no frame does on the armed state what it does on the state, and leaves it armed. -/
theorem present_pend {w : EventWord} {s t : State} (hn : ¬completes w s) (h : present w s = .next t) :
    present w s.pend = .next t.pend := by
  obtain ⟨hcfg, -⟩ := present_next_cases w s t h
  rw [present_event w s hcfg] at h
  rw [present_event w s.pend hcfg]
  cases hw : decodeEvent w with
  | edge level tick =>
    rw [hw] at h
    have hcomp := completes_iff_of_edge (decode_of_edge hw s)
    exact exec_edgeInstr_pend (fun hdata hlast => hn (hcomp.2 ⟨hlast, hdata⟩)) h
  | reserved x =>
    rw [hw] at h
    cases h
  | reset x | arm x | nop x =>
    rw [hw] at h
    cases h
    rfl

/-- An ARM that comes after words that complete no frame might as well have come before them. -/
theorem NoFrame.runWords_arm {xs : List EventWord} {s : State} (h : NoFrame xs s) (hcfg : s.configured) (x : BitVec 33)
    (ys : List EventWord) : runWords (xs ++ encodeEvent (.arm x) :: ys) s = runWords (xs ++ ys) s.pend := by
  induction xs generalizing s with
  | nil => exact runWords_cons_next _ ys s s.pend (present_arm x hcfg)
  | cons w xs ih =>
    obtain ⟨t, ht, -, hrest⟩ := h.present_head hcfg
    have hpend := present_pend (h.2 [] xs w s rfl rfl) ht
    calc runWords (w :: xs ++ encodeEvent (.arm x) :: ys) s
        = runWords (xs ++ encodeEvent (.arm x) :: ys) t := runWords_cons_next w _ s t ht
      _ = runWords (xs ++ ys) t.pend := ih hrest ((present_configured_iff ht).2 hcfg)
      _ = runWords (w :: xs ++ ys) s.pend := (runWords_cons_next w _ s.pend t.pend hpend).symm

/-! ### Sequences that complete no frame -/

theorem NoFrame.nil (s : State) : NoFrame [] s := by
  simp [NoFrame]

theorem NoFrame.cons {w : EventWord} {ws : List EventWord} {s t : State} (h : NoFrame ws t)
    (hw : present w s = .next t) (hk : keepsFlag w = true) (hn : ¬completes w s) : NoFrame (w :: ws) s := by
  obtain ⟨hwords, hmore⟩ := h
  have hlegal := (notReserved_iff w).2 ((present_next_iff w s).1 ⟨t, hw⟩).2
  refine ⟨List.forall_mem_cons.2 ⟨⟨hk, hlegal⟩, hwords⟩, fun before after x u hsplit hu => ?_⟩
  cases before with
  | nil =>
    obtain ⟨rfl, -⟩ := List.cons.inj hsplit
    cases hu
    exact hn
  | cons x' before =>
    obtain ⟨rfl, hrest⟩ := List.cons.inj hsplit
    exact hmore before after x u hrest ((runWords_cons_next w before s t hw).symm.trans hu)

theorem NoFrame.of_isPrefix {xs ws : List EventWord} {s : State} (h : NoFrame ws s) (hstart : xs <+: ws) :
    NoFrame xs s := by
  obtain ⟨ys, rfl⟩ := hstart
  obtain ⟨hwords, hmore⟩ := h
  refine ⟨fun w hw => hwords w (List.mem_append_left ys hw), fun before after w u hsplit => ?_⟩
  exact hmore before (after ++ ys) w u (by rw [hsplit, List.append_assoc, List.cons_append])

/-- The completing edge leaves the block Idle (R69). -/
theorem EdgeStep.idle_of_last {s t : State} {tick : Tick} {c : EdgeClass} (he : EdgeStep s tick c t)
    (hlast : s.bits + 1 = frameBitCount) (hdata : ∃ bit, c = dataClass bit) : t.inFrame = false := by
  cases he with
  | complete => rfl
  | shift bit hin hpos hmore => exact absurd hlast hmore
  | sync | ignore | skip | viol => simp [dataClass] at hdata

theorem idle_of_completes {w : EventWord} {s t : State} (hc : completes w s) (h : present w s = .next t) :
    t.inFrame = false := by
  obtain ⟨level, tick, hedge⟩ := edge_of_completes hc
  cases presentStep_of_next h with
  | edge level tick c t hw hd he =>
    obtain ⟨hlast, hdata⟩ := (completes_iff_of_edge hd).1 hc
    exact he.idle_of_last hlast hdata
  | reset x hw | arm x hw | nop x hw => simp [hw] at hedge

/-- A gap that leaves the block in a frame completes none. -/
theorem NoFrame.gaps_cons {n : Tick} {ns : List Tick} {s t : State}
    (h : present (encodeEvent (.edge 1 (s.lastTick + n))) s = .next t) (hin : t.inFrame = true)
    (hrest : NoFrame (gaps t.lastTick ns) t) : NoFrame (gaps s.lastTick (n :: ns)) s := by
  have hedge := decodeEvent_encodeEvent (.edge 1 (s.lastTick + n))
  have htick : t.lastTick = s.lastTick + n := (lastTickWriters _ s t h).1 1 _ hedge
  rw [htick] at hrest
  refine hrest.cons h (keepsFlag_of_edge hedge) fun hc => ?_
  simp [idle_of_completes hc h] at hin

/-- Data edges that are fewer than the frame still wants. -/
theorem noFrame_dataGaps {bs : List Bool} {ns : List Tick} (hcarry : List.Forall₂ carries bs ns) {s : State}
    (hcfg : s.configured) (hin : s.inFrame = true) (hpos : 0 ≤ s.bits.toInt) (hcount : s.bits.toInt + bs.length < 40) :
    NoFrame (gaps s.lastTick ns) s := by
  induction hcarry generalizing s with
  | nil => exact .nil s
  | @cons b n bs ns hn hcarry ih =>
    rw [List.length_cons] at hcount
    have hmore : s.bits + 1 ≠ frameBitCount := (counter_add_one_eq_40_iff s.bits (by omega)).not.2 (by omega)
    have hedge := (present_gap_carries hn hcfg hin hpos).trans (dataEdge_more hmore)
    have hbits : (afterData b (s.lastTick + n) s).bits.toInt = s.bits.toInt + 1 := counter_succ_toInt s.bits (by omega)
    exact .gaps_cons hedge hin (ih hcfg hin (by omega) (by omega))

/-- A sync, two discard edges and fewer than forty data edges, whatever the state was. -/
theorem noFrame_partialFrame {s : State} {sync k1 k2 : Tick} {bs : List Bool} {ns : List Tick} (hcfg : s.configured)
    (hsync : 10000 < sync.toNat) (hk1 : k1.toNat ≤ 10000) (hk2 : k2.toNat ≤ 10000)
    (hcarry : List.Forall₂ carries bs ns) (hfew : bs.length < 40) :
    NoFrame (gaps s.lastTick (sync :: k1 :: k2 :: ns)) s := by
  refine .gaps_cons (present_gap_sync hsync hcfg) rfl ?_
  refine .gaps_cons (present_gap_discard hk1 hcfg rfl (by decide : bitsAfterSync.toInt < 0)) rfl ?_
  refine .gaps_cons (present_gap_discard hk2 hcfg rfl (by decide : (bitsAfterSync + 1).toInt < 0)) rfl ?_
  have hzero : (bitsAfterSync + 1 + 1).toInt = 0 := by decide
  have hcount : (bitsAfterSync + 1 + 1).toInt + bs.length < 40 := by omega
  exact noFrame_dataGaps hcarry hcfg rfl hzero.ge hcount

theorem gaps_take (t : Tick) (ns : List Tick) (k : Nat) : (gaps t ns).take k = gaps t (ns.take k) := by
  induction ns generalizing t k with
  | nil => simp [gaps]
  | cons n ns ih =>
    cases k with
    | zero => rfl
    | succ k => exact congrArg (_ :: ·) (ih (t + n) k)

/-- Settles O59: no proper part of the 43 edges completes a frame, so the ARM might as well come before them all, and the
frame is then sent to the armed state. -/
theorem armInFlightKeepsFrame : Obligations.ArmInFlightKeepsFrame := by
  unfold Obligations.ArmInFlightKeepsFrame
  intro s m f sync k1 k2 ns x before after hm hsync hk1 hk2 hcarry hsplit hafter
  have hcfg := s.configured_of_sensorModel m hm
  obtain ⟨hlen, hsent⟩ := sentFrameIsValidated s.pend m f sync k1 k2 ns hm hsync hk1 hk2 hcarry
  have hshort : before.length ≤ 42 := by
    have hpos := List.length_pos_of_ne_nil hafter
    rw [State.pend_lastTick, hsplit, List.length_append] at hlen
    omega
  have hstart : before <+: gaps s.lastTick (sync :: k1 :: k2 :: ns.take 39) := by
    have htake : gaps s.lastTick (sync :: k1 :: k2 :: ns.take 39) = (before ++ after).take 42 := by
      rw [← hsplit, gaps_take]
      rfl
    rw [htake, List.prefix_take_iff]
    exact ⟨List.prefix_append before after, hshort⟩
  have hpart := noFrame_partialFrame hcfg hsync hk1 hk2 (List.forall₂_take 39 hcarry) (by simp [frameBits])
  rw [(hpart.of_isPrefix hstart).runWords_arm hcfg, ← hsplit]
  exact hsent

/-! ### ARM and one edge (R156) -/

/-- VALIDATE reads nothing that ARM writes but the flag, which it hands on (R89, R92): a later ARM hides an earlier one. -/
theorem validate_pend_pend (m : SensorModel) (f : Frame) (s : State) :
    (validate m f s.pend).pend = (validate m f s).pend := by
  simp only [validate, apply_ite State.pend]
  rfl

theorem delivered_pend_pend (m : SensorModel) (f : Frame) (tick : Tick) (s : State) :
    (s.pend.delivered m f tick).pend = (s.delivered m f tick).pend :=
  validate_pend_pend m f { s with lastTick := tick, inFrame := false, bits := 40, code := f }

/-- VALIDATE does not read `in_frame`: the frame may be left after it (R69). -/
theorem delivered_eq_leaveFrame (m : SensorModel) (f : Frame) (tick : Tick) (s : State) :
    s.delivered m f tick = (validate m f { s with lastTick := tick, bits := 40, code := f }).leaveFrame :=
  validate_leaveFrame m f { s with lastTick := tick, bits := 40, code := f }

/-- The completing edge delivers the register with its bit shifted in (R69). -/
theorem present_edge_last {bit : Bool} {level : BitVec 1} {tick : Tick} {s : State} {m : SensorModel}
    (hm : s.sensorModel = some m) (hc : classify (s.interval tick) s.inFrame s.bits = dataClass bit)
    (hlast : s.bits + 1 = frameBitCount) :
    present (encodeEvent (.edge level tick)) s = .next (s.delivered m (s.shiftIn bit).code tick) := by
  rw [present_edge level tick s (s.configured_of_sensorModel m hm), hc, exec_dataClass]
  exact dataEdge_last hm hlast

/-- Settles O50: an edge that completes no frame commutes with ARM; one that does delivers the frame, and an ARM after it
leaves of that only the values. -/
theorem armAndEdgeOrder : Obligations.ArmAndEdgeOrder := by
  unfold Obligations.ArmAndEdgeOrder
  intro s x level tick hcfg
  have harm := runWords_cons_next _ [encodeEvent (.edge level tick)] s s.pend (present_arm x hcfg)
  have hedge := decodeEvent_encodeEvent (.edge level tick)
  refine ⟨fun hmore => ?_, fun hcomp => ?_⟩
  · have hlegal : notReserved (encodeEvent (.edge level tick)) = true := by rw [notReserved, hedge]
    obtain ⟨t, ht⟩ := (present_next_iff _ s).2 ⟨hcfg, (notReserved_iff _).1 hlegal⟩
    have hnone := (NoFrame.nil t).cons ht (keepsFlag_of_edge hedge) hmore
    exact harm.trans (hnone.runWords_arm hcfg x []).symm
  · obtain ⟨m, hm⟩ := s.sensorModel_of_configured hcfg
    obtain ⟨hlast, bit, hc⟩ := (completes_iff_of_edge (decode_of_edge hedge s)).1 hcomp
    have hdecode := decode_edge_of_classify hc level
    refine ⟨m, bit, hm, hdecode.trans (by cases bit <;> rfl), ?_⟩
    intro c u
    have hu : s.pend.delivered m c tick = u := delivered_eq_leaveFrame m c tick s.pend
    have hfirst : present (encodeEvent (.edge level tick)) s.pend = .next u :=
      hu ▸ present_edge_last (s := s.pend) hm hc hlast
    have hlater : present (encodeEvent (.edge level tick)) s = .next (s.delivered m c tick) :=
      present_edge_last hm hc hlast
    refine ⟨harm.trans (runWords_cons_next _ [] _ _ hfirst), (statusWriters _ s.pend u hfirst).1 hcomp, ?_⟩
    calc runWords [encodeEvent (.edge level tick), encodeEvent (.arm x)] s
        = runWords [encodeEvent (.arm x)] (s.delivered m c tick) := runWords_cons_next _ _ s _ hlater
      _ = .next (s.delivered m c tick).pend :=
        runWords_cons_next _ [] _ _ (present_arm x ((present_configured_iff hlater).2 hcfg))
      _ = .next u.pend := by rw [← delivered_pend_pend, hu]

end Sys2Proof.Machine
